-- ==== Sys2Proof/Word.lean ====
section
/-! DEFINITION. The word types of the FE-742: bytes of a link, mill-clock times, line numbers, chute numbers. -/

namespace Sys2Proof

/-- One byte of a link, bit 7 the most significant (R185). -/
abbrev Byte := BitVec 8

/-- A mill-clock value: 32 bits of microseconds that wrap (R1). -/
abbrev Time := BitVec 32

/-- A camera line number: 16 bits that wrap (R3; 00_scope, Conventions, "Lines"). -/
abbrev Line := BitVec 16

/-- A chute number, 0 to 3 (00_scope, Conventions, "Numbering"). -/
abbrev Chute := Fin 4

end Sys2Proof
end

