-- ==== Sys2Proof/Syntax.lean ====
section
/-! DEFINITION. The commands of the FE-742: one constructor per row of spec/opcode_table.json. -/

namespace Sys2Proof

/-- The two lanes of a valve bus (R112). -/
inductive Lane where
  | a
  | b
  deriving DecidableEq, Repr

/-- The commands: the rows of the opcode table, with the data that arrives with each.

A host command's row carries the frame's ADDRESS byte and its PAYLOAD; where the row names more than the KIND (the
setting of a SET, the form of a SWAP, the ON or OFF of a DRY) the row stands for the payload's first byte and `rest` is
what follows it. `unknownCommand` carries any frame: its KIND byte and its whole payload. -/
inductive Instr where
  /-- RSTN_LOW: power-on, or RSTN driven low (R148). -/
  | rstnLow
  /-- COLD_RESET_END: the cold reset ends; the straps and the levels of ESTOP and AIRLOW are read (R148, R165, R96). -/
  | coldResetEnd (straps : BitVec 5) (estop airlow : Bool)
  /-- LSYNC_PULSE: the scheduled pulse begins a line (R3). -/
  | lsyncPulse
  /-- SIGHTING_RECORD: the bytes of a record that is not of kind VERDICT arrive on the sighting link (R10 to R14). -/
  | sightingRecord (bytes : List Byte)
  /-- VERDICT_RECORD: the bytes of a record of kind VERDICT arrive on the sighting link (R10, R11, R83). -/
  | verdictRecord (bytes : List Byte)
  /-- PARTIAL_RECORD_TIMEOUT: the bytes of a partial record arrive, then the link is idle for more than 20 µs (R10). -/
  | partialRecordTimeout (bytes : List Byte)
  /-- RESYNC_IDLE_TIMEOUT: the sighting link is idle for more than 20 µs while RESYNCING (R10). -/
  | resyncIdleTimeout
  /-- PLANNER_TAKE (R18). -/
  | plannerTake
  /-- AGE_STEP (R41). -/
  | ageStep
  /-- BANK_STEP (R42). -/
  | bankStep
  /-- BAND_STEP (R43). -/
  | bandStep
  /-- NOZZLE_SET_STEP, as far as the next column: other events can come between two columns (R44 to R46). -/
  | nozzleSetStep
  /-- SIZE_BAND_STEP (R47). -/
  | sizeBandStep
  /-- WIDTH_STEP (R48, R49). -/
  | widthStep
  /-- FLIGHT_STEP (R50). -/
  | flightStep
  /-- SEEN_TIME_STEP (R51). -/
  | seenTimeStep
  /-- PER_NOZZLE_TIMES_STEP (R52). -/
  | perNozzleTimesStep
  /-- LEAD_STEP (R53). -/
  | leadStep
  /-- CONFIDENCE_STEP (R54). -/
  | confidenceStep
  /-- PLACEMENT (R55, R56). -/
  | placement
  /-- DEADLINE_EXPIRY of the held entry with this chute and tag (R86). -/
  | deadlineExpiry (chute : Chute) (tag : Byte)
  /-- ENTRY_START in the queue of this global nozzle id (R97). -/
  | entryStart (nozzle : Nat)
  /-- ENTRY_END in the queue of this global nozzle id (R103). -/
  | entryEnd (nozzle : Nat)
  /-- GRANT by the arbiter of this chute's bus (R115). -/
  | grant (chute : Chute)
  /-- COMMAND_SENT: the last byte of this chute's valve command leaves its lane (R117). -/
  | commandSent (chute : Chute)
  /-- REPLY_WAIT_EXPIRY: this chute's reply wait runs out (R119). -/
  | replyWaitExpiry (chute : Chute)
  /-- VALVE_REPLY: these bytes arrive as a reply on this lane of this chute's bus (R118). -/
  | valveReply (chute : Chute) (lane : Lane) (bytes : List Byte)
  /-- ESTOP_ASSERTION (R156). -/
  | estopAssertion
  /-- ESTOP_RELEASE (R156). -/
  | estopRelease
  /-- AIRLOW_ASSERTION (R96). -/
  | airlowAssertion
  /-- AIRLOW_RELEASE (R96). -/
  | airlowRelease
  /-- PURGE_TURN (R154). -/
  | purgeTurn
  /-- PURGE_COMPLETE (R155). -/
  | purgeComplete
  /-- WIND_DOWN_LIMIT_EXPIRY (R160). -/
  | windDownLimitExpiry
  /-- WARM_RESET (R161). -/
  | warmReset
  /-- DRY_FLAG_SET (R106). -/
  | dryFlagSet
  /-- CONTROL_ERROR: the bytes of a bad frame arrive on the control link (R166, R167). -/
  | controlError (bytes : List Byte)
  /-- FRAME_IDLE_TIMEOUT: the bytes of a partial frame arrive, then the link is idle for more than 100 µs (R166). -/
  | frameIdleTimeout (bytes : List Byte)
  /-- CONTROL_RESYNC_TIMEOUT: the control link is idle for more than 100 µs while RESYNCING (R166). -/
  | controlResyncTimeout
  /-- REPLY_TURNAROUND_END (R170). -/
  | replyTurnaroundEnd
  /-- REPLY_SENT (R170). -/
  | replySent
  /-- UNKNOWN_COMMAND: a frame with this KIND byte and this whole payload; the row's own case is a KIND that is no
  command (R169), and any frame that no other row spells is given by it too. -/
  | unknownCommand (addr kind : Byte) (payload : List Byte)
  /-- POLL, KIND 0x01 (R173). -/
  | poll (addr : Byte) (payload : List Byte)
  /-- NOTICES, KIND 0x02 (R175). -/
  | notices (addr : Byte) (payload : List Byte)
  /-- REARM, KIND 0x03 (R178). -/
  | rearm (addr : Byte) (payload : List Byte)
  /-- GO RUN, KIND 0x04 (R150). -/
  | goRun (addr : Byte) (payload : List Byte)
  /-- GO STANDBY, KIND 0x05 (R151, R152). -/
  | goStandby (addr : Byte) (payload : List Byte)
  /-- PURGE, KIND 0x06 (R153). -/
  | purge (addr : Byte) (payload : List Byte)
  /-- RESTART, KIND 0x07 (R158). -/
  | restart (addr : Byte) (payload : List Byte)
  /-- CLEAR COLD, KIND 0x08 (R149). -/
  | clearCold (addr : Byte) (payload : List Byte)
  /-- DRY, KIND 0x09, with value 1, ON (R106, R163). -/
  | dryOn (addr : Byte) (rest : List Byte)
  /-- DRY, KIND 0x09, with value 0, OFF (R107, R163). -/
  | dryOff (addr : Byte) (rest : List Byte)
  /-- WINDOW, KIND 0x0A (R27). -/
  | window (addr : Byte) (payload : List Byte)
  /-- PUT, KIND 0x0B (R28). -/
  | put (addr : Byte) (payload : List Byte)
  /-- GET, KIND 0x0C (R29). -/
  | get (addr : Byte) (payload : List Byte)
  /-- SWAP, KIND 0x0D, form 0, at a line (R31). -/
  | swapAtLine (addr : Byte) (rest : List Byte)
  /-- SWAP, KIND 0x0D, form 1, at the next line (R31). -/
  | swapAtNextLine (addr : Byte) (rest : List Byte)
  /-- SWAP, KIND 0x0D, form 2, CANCEL (R31). -/
  | swapCancel (addr : Byte) (rest : List Byte)
  /-- NOZZLE READ, KIND 0x0E (R135). -/
  | nozzleRead (addr : Byte) (payload : List Byte)
  /-- NOZZLE WRITE, KIND 0x0F (R137 to R140). -/
  | nozzleWrite (addr : Byte) (payload : List Byte)
  /-- TEST, KIND 0x10 (R143, R144). -/
  | test (addr : Byte) (payload : List Byte)
  /-- LANE, KIND 0x11 (R125). -/
  | lane (addr : Byte) (payload : List Byte)
  /-- SET, KIND 0x12, of setting 1, AIR TRIM (R171). -/
  | setAirTrim (addr : Byte) (rest : List Byte)
  /-- SET of setting 2, LINE PERIOD (R7, R171). -/
  | setLinePeriod (addr : Byte) (rest : List Byte)
  /-- SET of setting 3, MAX AGE (R37, R171). -/
  | setMaxAge (addr : Byte) (rest : List Byte)
  /-- SET of setting 4, LEAD MIN (R171). -/
  | setLeadMin (addr : Byte) (rest : List Byte)
  /-- SET of setting 5, WIDTH MIN (R171). -/
  | setWidthMin (addr : Byte) (rest : List Byte)
  /-- SET of setting 6, WIDTH MAX (R171). -/
  | setWidthMax (addr : Byte) (rest : List Byte)
  /-- SET of setting 7, WIDTH CAP (R171). -/
  | setWidthCap (addr : Byte) (rest : List Byte)
  /-- SET of setting 8, VALVE GAP of a chute (R171). -/
  | setValveGap (addr : Byte) (rest : List Byte)
  /-- SET of setting 9, REPLY WAIT (R171). -/
  | setReplyWait (addr : Byte) (rest : List Byte)
  /-- SET of setting 10, MISS LIMIT (R171). -/
  | setMissLimit (addr : Byte) (rest : List Byte)
  /-- SET of setting 11, WIND-DOWN LIMIT (R171). -/
  | setWindDownLimit (addr : Byte) (rest : List Byte)
  /-- SET of setting 12, GROUP ADDRESS (R171). -/
  | setGroupAddress (addr : Byte) (rest : List Byte)
  /-- SET of setting 13, NOTICE MASK (R171, R176). -/
  | setNoticeMask (addr : Byte) (rest : List Byte)
  /-- QUERY, KIND 0x13 (R172). -/
  | query (addr : Byte) (payload : List Byte)
  /-- TALLY, KIND 0x14 (R182). -/
  | tally (addr : Byte) (payload : List Byte)
  /-- LSYNC_PULSE_END: the pulse in progress ends (R4). -/
  | lsyncPulseEnd
  deriving DecidableEq, Repr

end Sys2Proof
end

