-- ==== Sys2Proof/Decode.lean ====
section
/-! DEFINITION. The decoder of the opcode table's words. The table gives no row any bits (every row's "fields" is empty
and none has "fixed" bits), so no word spells a command. Frames and records are read byte by byte where they arrive, in
Machine/Formats.lean. -/

namespace Sys2Proof

/-- The command that a word of the opcode table spells: none, since no row of the table has bits.
DEDUCED, safe: notes/assumptions/30. -/
def decodeTableWord (_nbits _w : Nat) : Option Instr := none

end Sys2Proof
end

