-- ==== Sys2Proof/Config.lean ====
section
/-! DEFINITION. The fixed sizes and limits that the manual gives the part. The manual leaves no value of the part to the
implementation, so there is no free constant here. -/

namespace Sys2Proof.Config

/-- Sightings the intake holds (R13). -/
def intakeSize : Nat := 64
/-- Intake count at which HOLD is asserted (R17). -/
def holdRise : Nat := 48
/-- Intake count at which HOLD is released (R17). -/
def holdFall : Nat := 16
/-- Entries of the held list (R79). -/
def heldSize : Nat := 32
/-- Tags of one expired-tag ring (R87). -/
def ringSize : Nat := 8
/-- Entries of one nozzle queue (R60, R61). -/
def queueSize : Nat := 8
/-- Nozzles of a chute (00_scope, "Numbering"). -/
def nozzlesPerChute : Nat := 40
/-- Nozzles of the module (00_scope, "Numbering"). -/
def nozzleCount : Nat := 160
/-- Camera columns of a chute (00_scope, "Numbering"). -/
def columnsPerChute : Nat := 640
/-- Members of a clipped nozzle set (R46). -/
def planSize : Nat := 4
/-- The value at which every tally counter and the wear count stay (00_scope, "Counters"; R180). -/
def counterMax : Nat := 4294967295
/-- The value at which a notice count stays (R174). -/
def noticeCountMax : Nat := 255
/-- The value at which a miss count stays (R128). -/
def missMax : Nat := 15
/-- The greatest learned latency (R131). -/
def latencyMax : Nat := 4095
/-- Length of an ordinary LSYNC pulse in microseconds (R4). -/
def pulseLength : Nat := 4
/-- Length of a mark pulse in microseconds (R4). -/
def markLength : Nat := 20
/-- How long LSYNC is driven low between a pulse that a warm reset cuts short and the mark pulse, in microseconds; the
manual says at least this long (R6). DESIGN CHOICE, unsafe: notes/assumptions/20. -/
def cutLow : Nat := 4
/-- The greatest LENGTH of a control frame (R166). -/
def maxPayload : Nat := 200
/-- The least turnaround before a reply's first byte (R170). -/
def turnaroundMin : Nat := 20
/-- The greatest turnaround before a reply's first byte (R170). -/
def turnaroundMax : Nat := 200

end Sys2Proof.Config
end

