-- ==== Sys2Proof/Machine/Table.lean ====
section
/-! DEFINITION. The two containers of State: a sparse table from an index to a value, in one canonical form, and a
record of four values, one per chute. -/

namespace Sys2Proof.Machine

/-- A sparse table: (index, value) pairs. Its canonical form (`Tab.wf`) has the indices strictly rising and lists no
value equal to the default `d` that every unlisted index reads as. DESIGN CHOICE, safe: notes/assumptions/19. -/
abbrev Tab (α : Type) := List (Nat × α)

/-- The value at index `i`, the default where nothing is listed. -/
def Tab.get {α : Type} (d : α) : Tab α → Nat → α
  | [], _ => d
  | (k, v) :: t, i => if k = i then v else Tab.get d t i

/-- Puts a pair before the first pair with a greater index. -/
def Tab.insert {α : Type} (i : Nat) (a : α) : Tab α → Tab α
  | [] => [(i, a)]
  | (k, v) :: t => if i < k then (i, a) :: (k, v) :: t else (k, v) :: Tab.insert i a t

/-- The table without its pairs of index `i`. -/
def Tab.erase {α : Type} (t : Tab α) (i : Nat) : Tab α :=
  t.filter fun p => p.1 != i

/-- Writes `a` at index `i`; writing the default removes the pair. -/
def Tab.set {α : Type} [DecidableEq α] (d : α) (t : Tab α) (i : Nat) (a : α) : Tab α :=
  if a = d then Tab.erase t i else Tab.insert i a (Tab.erase t i)

/-- Applies `f` to every listed value, removing what becomes the default. -/
def Tab.mapListed {α : Type} [DecidableEq α] (d : α) (f : Nat → α → α) (t : Tab α) : Tab α :=
  (t.map fun p => (p.1, f p.1 p.2)).filter fun p => p.2 ≠ d

/-- The listed indices rise strictly. -/
def Tab.rising {α : Type} : Tab α → Bool
  | [] => true
  | [_] => true
  | (k, _) :: (k', v') :: t => k < k' && Tab.rising ((k', v') :: t)

/-- The canonical form of a table: indices strictly rising, no default listed. -/
def Tab.wf {α : Type} [DecidableEq α] (d : α) (t : Tab α) : Bool :=
  Tab.rising t && t.all fun p => p.2 ≠ d

/-- One value for each of the four chutes. -/
structure PerChute (α : Type) where
  c0 : α
  c1 : α
  c2 : α
  c3 : α
  deriving DecidableEq, Repr

/-- The same value for every chute. -/
def PerChute.const {α : Type} (a : α) : PerChute α := ⟨a, a, a, a⟩

/-- The value of chute `h`. -/
def PerChute.get {α : Type} (p : PerChute α) (h : Chute) : α :=
  match h with
  | 0 => p.c0
  | 1 => p.c1
  | 2 => p.c2
  | 3 => p.c3

/-- Writes the value of chute `h`. -/
def PerChute.set {α : Type} (p : PerChute α) (h : Chute) (a : α) : PerChute α :=
  match h with
  | 0 => { p with c0 := a }
  | 1 => { p with c1 := a }
  | 2 => { p with c2 := a }
  | 3 => { p with c3 := a }

/-- Applies `f` to the value of chute `h`. -/
def PerChute.modify {α : Type} (p : PerChute α) (h : Chute) (f : α → α) : PerChute α :=
  p.set h (f (p.get h))

/-- Applies `f` to each chute's value. -/
def PerChute.map {α β : Type} (f : Chute → α → β) (p : PerChute α) : PerChute β :=
  ⟨f 0 p.c0, f 1 p.c1, f 2 p.c2, f 3 p.c3⟩

/-- Whether `f` holds of each chute's value. -/
def PerChute.all {α : Type} (p : PerChute α) (f : α → Bool) : Bool :=
  f p.c0 && f p.c1 && f p.c2 && f p.c3

end Sys2Proof.Machine
end

