-- ==== Sys2Proof/Machine/State.lean ====
section
/-! DEFINITION. The state of the FE-742, block by block as 00_scope.md ("How the part is built") divides it, and its value
after reset. -/

namespace Sys2Proof.Machine

/-! ### Names -/

/-- The five operating states (R147). -/
inductive OpState where
  | standby | run | purge | windDown | halt
  deriving DecidableEq, Repr

/-- The camera side of a sighting (R9, R12). -/
inductive Side where
  | front | rear
  deriving DecidableEq, Repr

/-- The default policy of a class (R23). -/
inductive Policy where
  | fire | pass
  deriving DecidableEq, Repr

/-- The two physical banks (R20). -/
inductive Bank where
  | x | y
  deriving DecidableEq, Repr

/-- The four calibration tables (2.2). -/
inductive TableId where
  | columnMap | chute | cls | pulse
  deriving DecidableEq, Repr

/-- The direction of a table window (R27). -/
inductive Dir where
  | get | put
  deriving DecidableEq, Repr

/-- The phases of a queue entry (R60, 4.1.1); `opened` is OPEN. -/
inductive Phase where
  | waiting | opening | opened | closing
  deriving DecidableEq, Repr

/-- The kind of work an entry came from (R60). -/
inductive Origin where
  | sighting | purge | test
  deriving DecidableEq, Repr

/-- The kind of a firing record (R94). -/
inductive FiringKind where
  | wet | dry
  deriving DecidableEq, Repr

/-- The state of the OPEN or the CLOSE asked for a firing (R94). -/
inductive ReqState where
  | none | waiting | inFlight | complete
  deriving DecidableEq, Repr

/-- The state of a nozzle (R131). -/
inductive NozzleState where
  | inService | masked | failed
  deriving DecidableEq, Repr

/-- The last result of a nozzle (R131). -/
inductive LastResult where
  | none | done | noReply | coilFault
  deriving DecidableEq, Repr

/-- The failure cause of a nozzle (R131, R134). -/
inductive FailureCause where
  | none | misses | openCoilFault | closeNotConfirmed
  deriving DecidableEq, Repr

/-- The commands of the valve bus (12.3). -/
inductive BusKind where
  | opn | close | closeAll
  deriving DecidableEq, Repr

/-- The two phases of a wind-down (R147). -/
inductive WindDownPhase where
  | draining | closingOut
  deriving DecidableEq, Repr

/-- The eleven notice kinds, in the order of the table of R174. -/
inductive NoticeKind where
  | nozzleFailed | closeFailed | laneFlipped | heldFull | intakeOverflow | linkError | airLow | estop | bankSwapped
  | purgeDone | restarted
  deriving DecidableEq, Repr

/-- The results of a command (R169). -/
inductive Result where
  | done | clamped | unknown | malformed | notNow | outOfRange | noWindow | notLoaded | settling | cold
  deriving DecidableEq, Repr

/-- The steps of planning, in the order of the table of 3.1. -/
inductive PlanStep where
  | age | bank | band | nozzleSet | sizeBand | width | flight | seenTime | times | lead | confidence | placement
  deriving DecidableEq, Repr

/-! ### Line clock -/

/-- LSYNC: low, or high until a time (R4); or, after a warm reset has cut a pulse short, driven low until the mark pulse
of line 0 rises and high from then until a time (R6). -/
inductive Lsync where
  | low
  | high (stop : Time)
  | cut (rise stop : Time)
  deriving DecidableEq, Repr

/-- The mill clock and the line clock (R1, 1.2). -/
structure LineClock where
  /-- The mill clock (R1). -/
  now : Time
  /-- The line counter N (R3). -/
  line : Line
  /-- T(N) (R3). -/
  lineStart : Time
  /-- The time of the pulse already scheduled (R3, R7). -/
  nextPulse : Time
  /-- LINE PERIOD P as stored (R7). -/
  period : Nat
  /-- A LINE PERIOD change waits for its pulse (R7). -/
  pendingRestart : Bool
  /-- The LSYNC line (R4). -/
  lsync : Lsync
  deriving DecidableEq, Repr

/-! ### Sighting port -/

/-- The receiver of the sighting link (R10). -/
inductive RecordRx where
  | collecting (bytes : List Byte)
  | resyncing
  deriving DecidableEq, Repr

/-- A decoded sighting (R12). -/
structure Sighting where
  chute : Chute
  side : Side
  tag : Byte
  stamp : Line
  c0 : Nat
  c1 : Nat
  cls : Nat
  size : Nat
  conf : Nat
  deriving DecidableEq, Repr

/-- The sighting port (1.3). -/
structure SightingPort where
  rx : RecordRx
  /-- Admitted sightings, oldest first (R13). -/
  intake : List Sighting
  /-- HOLD asserted (R17). -/
  hold : Bool
  deriving DecidableEq, Repr

/-! ### Table banks -/

/-- A COLUMN MAP entry: nozzle numbers, or none for NONE (R21). -/
structure ColumnEntry where
  primary : Option Nat
  alternate : Option Nat
  deriving DecidableEq, Repr

/-- A CHUTE entry (R22). -/
structure ChuteEntry where
  flight : Nat
  trim : Int
  lag : Int
  bandFirst : Nat
  bandLast : Nat
  airCap : Nat
  learning : Bool
  deriving DecidableEq, Repr

/-- A CLASS entry (R23). -/
structure ClassEntry where
  offset : Int
  prio : Nat
  threshold : Nat
  policy : Policy
  deriving DecidableEq, Repr

/-- COLUMN MAP entries after cold reset (R25). -/
def ColumnEntry.zero : ColumnEntry := ⟨some 0, some 0⟩
/-- CHUTE entries after cold reset (R25). -/
def ChuteEntry.zero : ChuteEntry := ⟨2000, 0, 0, 0, 0, 1, false⟩
/-- CLASS entries after cold reset (R25). -/
def ClassEntry.zero : ClassEntry := ⟨0, 0, 0, .pass⟩

/-- The loaded flags of one bank, in table order (R26). -/
structure LoadedFlags where
  columnMap : Bool
  chute : Bool
  cls : Bool
  pulse : Bool
  deriving DecidableEq, Repr

/-- One physical bank: its four tables and their loaded flags (R20 to R26). -/
structure BankData where
  columnMap : Tab ColumnEntry
  chute : Tab ChuteEntry
  cls : Tab ClassEntry
  pulse : Tab Nat
  loaded : LoadedFlags
  deriving DecidableEq, Repr

/-- The table banks (chapter 2). -/
structure TableBanks where
  x : BankData
  y : BankData
  /-- The WORKING bank; the other is STAGING (R20). -/
  working : Bank
  /-- The pending swap line (R31). -/
  pendingSwap : Option Line
  /-- The line of the last swap; while present a settle is running (R33). -/
  lastSwap : Option Line
  /-- The settle is over but for a planning operation that holds it open (R33, R42). -/
  settleHeld : Bool
  deriving DecidableEq, Repr

/-! ### Planner and held list -/

/-- A member of the nozzle set with its computed times (R38, R45, R52, R53). -/
structure PlanNozzle where
  num : Nat
  columns : Nat
  arrival : Time
  command : Time
  stop : Time
  late : Bool
  deriving DecidableEq, Repr

/-- The planning record (R38). `next` is the step to be taken; a field that no step has reached yet is read by none. -/
structure PlanRecord where
  sighting : Sighting
  next : PlanStep
  pairLine : Line
  pairTime : Time
  age : Nat
  /-- The physical bank, fixed at the bank step (R42). -/
  bank : Option Bank
  c0 : Nat
  c1 : Nat
  /-- The column that the nozzle-set step looks up next (R44). -/
  column : Nat
  /-- The effective nozzles of the columns looked up, one for each column that has one (R44, R45). -/
  served : List Nat
  nozzles : List PlanNozzle
  band : Nat
  width : Nat
  flight : Nat
  seen : Time
  prio : Nat
  threshold : Nat
  policy : Policy
  deriving DecidableEq, Repr

/-- One firing of a plan: global nozzle id, command time C, end time E (R54, R79). -/
structure PlanFiring where
  nozzle : Nat
  command : Time
  stop : Time
  deriving DecidableEq, Repr

/-- A held entry (R79). -/
structure HeldEntry where
  chute : Chute
  tag : Byte
  cls : Nat
  prio : Nat
  policy : Policy
  plan : List PlanFiring
  deadline : Time
  deriving DecidableEq, Repr

/-- The held list and the expired-tag rings, oldest tag first (chapter 5). -/
structure Verdicts where
  held : List HeldEntry
  rings : PerChute (List Byte)
  deriving DecidableEq, Repr

/-! ### Nozzle queues and dispatchers -/

/-- A firing record (R94), kept inside the entry it belongs to. DESIGN CHOICE, safe: notes/assumptions/18. -/
structure FiringRecord where
  kind : FiringKind
  openReq : ReqState
  closeReq : ReqState
  deriving DecidableEq, Repr

/-- A queue entry (R60), with its firing record once it has left WAITING (R94). `ident` tells entries apart: it is the
model's own. DESIGN CHOICE, safe: notes/assumptions/10. -/
structure Entry where
  ident : Nat
  start : Time
  stop : Time
  prio : Nat
  origin : Origin
  phase : Phase
  firing : Option FiringRecord
  deriving DecidableEq, Repr

/-- The 160 queues by global nozzle id, and the dispatchers' open counts (R60, R94). -/
structure Firings where
  queues : Tab (List Entry)
  openCount : PerChute Nat
  /-- The model's own: the identity of the next entry. -/
  nextIdent : Nat
  deriving DecidableEq, Repr

/-! ### Valve bus -/

/-- A waiting OPEN (`isOpen`) or CLOSE request (R114). -/
structure Request where
  isOpen : Bool
  nozzle : Nat
  ident : Nat
  due : Time
  deriving DecidableEq, Repr

/-- The transaction in flight (R112). -/
structure Transaction where
  kind : BusKind
  nozzle : Nat
  ident : Nat
  /-- Lane and tag of the current send. -/
  lane : Lane
  tag : BitVec 4
  retry : Bool
  /-- When the reply wait ends; none while the command is leaving the lane (R117). -/
  waitEnd : Option Time
  /-- For a CLOSE ALL: a send has drawn a good reply with DONE (R123). -/
  drewDone : Bool
  deriving DecidableEq, Repr

/-- A valve bus controller (R112). -/
structure BusController where
  active : Lane
  tag : BitVec 4
  /-- A CLOSE ALL waits (R116). -/
  closeAll : Bool
  /-- Waiting OPENs and CLOSEs in the order they were handed over (R114). -/
  requests : List Request
  inFlight : Option Transaction
  deriving DecidableEq, Repr

/-! ### Nozzle table -/

/-- A nozzle record (R131). -/
structure NozzleRecord where
  state : NozzleState
  offset : Int
  latency : Nat
  wear : Nat
  misses : Nat
  lastResult : LastResult
  lastLatency : Nat
  cause : FailureCause
  deriving DecidableEq, Repr

/-- A nozzle record after cold reset (R132). -/
def NozzleRecord.cold : NozzleRecord := ⟨.masked, 0, 800, 0, 0, .none, 0, .none⟩

/-! ### State controller -/

/-- The wind-down record (R147). -/
structure WindDown where
  phase : WindDownPhase
  expiry : Time
  deriving DecidableEq, Repr

/-- The purge record (R147, R153 to R155). The purge set names entries by (global nozzle id, identity). -/
structure Purge where
  width : Nat
  spacing : Nat
  turns : Nat
  nextTurn : Nat
  nextTime : Time
  /-- Generation has ended (R154). -/
  ended : Bool
  set : List (Nat × Nat)
  deriving DecidableEq, Repr

/-- The state controller and the level inputs (R147, R156, R96, R148). -/
structure Controller where
  op : OpState
  cold : Bool
  dry : Bool
  goingDry : Bool
  windDown : Option WindDown
  purge : Option Purge
  /-- A warm reset follows as the next event (R162). -/
  resetDue : Bool
  estop : Bool
  airlow : Bool
  /-- RSTN is held low, or the power-on reset lasts (R148). -/
  rstn : Bool
  deriving DecidableEq, Repr

/-! ### Control port -/

/-- An open table window (R27). -/
structure Window where
  table : TableId
  bank : Bank
  first : Nat
  last : Nat
  dir : Dir
  pos : Nat
  deriving DecidableEq, Repr

/-- The receiver of the control link (R165, R166). -/
inductive FrameRx where
  | hunting
  | collecting (bytes : List Byte)
  | resyncing
  deriving DecidableEq, Repr

/-- A reply: the command's KIND, the result, and the payload after it (R170). -/
structure Reply where
  kind : Byte
  result : Result
  payload : List Byte
  deriving DecidableEq, Repr

/-- The transmitter of the control link (R165, R170); `since` is when the reply was given to it. -/
inductive Transmitter where
  | idle
  | turnaround (reply : Reply) (since : Time)
  | sending (reply : Reply)
  deriving DecidableEq, Repr

/-- The control port (R165). -/
structure ControlPort where
  /-- The individual address. -/
  address : Byte
  window : Option Window
  rx : FrameRx
  tx : Transmitter
  deriving DecidableEq, Repr

/-! ### Settings, notices, tallies -/

/-- The settings of 10.3, but LINE PERIOD, which the line clock holds. -/
structure Settings where
  airTrim : Nat
  maxAge : Nat
  leadMin : Nat
  widthMin : Nat
  widthMax : Nat
  widthCap : Nat
  valveGap : PerChute Nat
  /-- The code of REPLY WAIT. -/
  replyWait : Nat
  missLimit : Nat
  windDownLimit : Nat
  group : Byte
  noticeMask : BitVec 11
  deriving DecidableEq, Repr

/-- A notice record (R174). -/
structure NoticeRecord where
  pending : Bool
  count : Nat
  mask : BitVec 4
  deriving DecidableEq, Repr

/-- A cleared notice record (R174). -/
def NoticeRecord.clear : NoticeRecord := ⟨false, 0, 0⟩

/-- The notice table (R174, R176): its records by place, the armed flag, and ATTN as this part pulls it. -/
structure NoticeTable where
  records : Tab NoticeRecord
  armed : Bool
  attn : Bool
  deriving DecidableEq, Repr

/-- A sighting record of the tally table, in the order of 12.4. -/
structure SightingTally where
  seen : Nat
  planned : Nat
  merged : Nat
  passed : Nat
  blind : Nat
  untimely : Nat
  crowded : Nat
  dismissed : Nat
  abandoned : Nat
  defaulted : Nat
  clipped : Nat
  deriving DecidableEq, Repr

/-- A chute record of the tally table, in the order of 12.4. -/
structure ChuteTally where
  refused : Nat
  overflow : Nat
  duplicateTags : Nat
  verdictsLate : Nat
  verdictsUnknown : Nat
  opened : Nat
  unconfirmed : Nat
  dryFirings : Nat
  starved : Nat
  cut : Nat
  retries : Nat
  laneFlips : Nat
  firingsAbandoned : Nat
  deriving DecidableEq, Repr

/-- The link record of the tally table. -/
structure LinkTally where
  linkErrors : Nat
  controlErrors : Nat
  deriving DecidableEq, Repr

/-- A sighting record with every counter 0 (R181). -/
def SightingTally.zero : SightingTally := ⟨0, 0, 0, 0, 0, 0, 0, 0, 0, 0, 0⟩
/-- A chute record with every counter 0 (R181). -/
def ChuteTally.zero : ChuteTally := ⟨0, 0, 0, 0, 0, 0, 0, 0, 0, 0, 0, 0, 0⟩

/-- The tally table (R180): sighting records by chute × 16 + class. -/
structure TallyTable where
  sightings : Tab SightingTally
  chutes : PerChute ChuteTally
  link : LinkTally
  deriving DecidableEq, Repr

/-! ### The state -/

/-- The state of the part, and the queue of commands that wait. -/
structure State where
  /-- The commands that wait, the next one first: the model's own. -/
  pending : List Instr
  clk : LineClock
  port : SightingPort
  banks : TableBanks
  planner : Option PlanRecord
  verdicts : Verdicts
  firing : Firings
  bus : PerChute BusController
  nozzles : Tab NozzleRecord
  ctl : Controller
  link : ControlPort
  settings : Settings
  notices : NoticeTable
  tally : TallyTable
  deriving DecidableEq, Repr

/-- Faults: none. The manual names no event that stops the part; link errors are counted and commands are refused with
a result (R11, R167, R169). -/
inductive Fault where
  deriving DecidableEq, Repr

/-- Refusals. -/
inductive Refusal where
  /-- Raised by exec alone, for a command that has no meaning yet; safe. No arm raises it. -/
  | notModelled (mnemonic : String)
  deriving DecidableEq, Repr

/-! ### Reset -/

/-- The settings' defaults (10.3, R172). -/
def Settings.default : Settings where
  airTrim := 64
  maxAge := 256
  leadMin := 300
  widthMin := 400
  widthMax := 6000
  widthCap := 12000
  valveGap := PerChute.const 1000
  replyWait := 1
  missLimit := 3
  windDownLimit := 100
  group := 0
  noticeMask := 0

/-- A bank after cold reset: zeroed, its loaded flags clear (R25, R26). -/
def BankData.cold : BankData := ⟨[], [], [], [], ⟨false, false, false, false⟩⟩

/-- The banks after cold reset (R20, R35). -/
def TableBanks.cold : TableBanks := ⟨.cold, .cold, .x, none, none, false⟩

/-- A valve bus controller when the cold reset has ended: lane A, and the CLOSE ALL that it requests granted at once, its
first send on lane A with tag 0 (R112, R113, R114, R123, R124). -/
def BusController.cold : BusController := ⟨.a, 1, false, [], some ⟨.closeAll, 0, 0, .a, 0, false, none, false⟩⟩

/-- The default LINE PERIOD (R6). -/
def coldPeriod : Nat := 125

/-- The line clock as a reset leaves it with period `p`: the mill clock at 0, the mark pulse of line 0 in progress, the
pulse of line 1 scheduled for P (R1, R4, R6). -/
def LineClock.restarted (p : Nat) : LineClock where
  now := 0
  line := 0
  lineStart := 0
  nextPulse := BitVec.ofNat 32 p
  period := p
  pendingRestart := false
  lsync := .high (BitVec.ofNat 32 Config.markLength)

/-- The notice table cleared and armed (R174, R176). -/
def NoticeTable.cleared : NoticeTable := ⟨[], true, false⟩

/-- The tally table with every counter 0 (R181). -/
def TallyTable.zero : TallyTable := ⟨[], PerChute.const .zero, ⟨0, 0⟩⟩

/-- The machine right after a cold reset (R148), with the straps at 0 (individual address 1) and ESTOP and AIRLOW
released. DESIGN CHOICE for those three inputs, which the manual does not fix; unsafe.
DESIGN CHOICE, unsafe: notes/assumptions/8. -/
def State.reset : State where
  pending := []
  clk := LineClock.restarted coldPeriod
  port := ⟨.collecting [], [], false⟩
  banks := .cold
  planner := none
  verdicts := ⟨[], PerChute.const []⟩
  firing := ⟨[], PerChute.const 0, 0⟩
  bus := PerChute.const .cold
  nozzles := []
  ctl := ⟨.standby, true, false, false, none, none, false, false, false, false⟩
  link := ⟨1, none, .hunting, .idle⟩
  settings := .default
  notices := .cleared
  tally := .zero

end Sys2Proof.Machine
end

