-- ==== Sys2Proof/Machine/Operands.lean ====
section
/-! DEFINITION. How operands are read: mill-clock comparison, numbers of bytes, clamping, and chutes of nozzle ids. -/

namespace Sys2Proof.Machine

/-! ### Mill-clock times (00_scope, Conventions, "Time") -/

/-- Time `a` is before time `b`: (b − a) mod 2^32 lies in 1 to 2^31 − 1. DEDUCED, unsafe: notes/assumptions/16. -/
def before (a b : Time) : Bool :=
  1 ≤ (b - a).toNat && (b - a).toNat ≤ 2147483647

/-- Time `a` is at or before time `b`. -/
def atOrBefore (a b : Time) : Bool := a == b || before a b

/-- Work scheduled for time `x` is due when `x` is not after now (R2). -/
def due (x now : Time) : Bool := !before now x

/-- The earlier of two times, the first where neither is before the other. DEDUCED, unsafe: notes/assumptions/16. -/
def earlier (a b : Time) : Time := if before b a then b else a

/-- The later of two times, the first where neither is before the other. DEDUCED, unsafe: notes/assumptions/16. -/
def later (a b : Time) : Time := if before a b then b else a

/-- Whether `c − now`, read as a signed 32-bit value, is at least `lead` (R53, R55). -/
def leadAtLeast (lead : Nat) (c now : Time) : Bool := (lead : Int) ≤ (c - now).toInt

/-- The width `stop − start`, modulo 2^32 (R60). -/
def spanOf (start stop : Time) : Nat := (stop - start).toNat

/-- The time a number of microseconds after `t`. -/
def plus (t : Time) (us : Nat) : Time := t + BitVec.ofNat 32 us

/-- The time a number of microseconds before `t`. -/
def minus (t : Time) (us : Nat) : Time := t - BitVec.ofNat 32 us

/-- The age of a line stamp against line `n`: (n − l) mod 65,536 (R8). -/
def ageOf (n l : Line) : Nat := (n - l).toNat

/-! ### Numbers of bytes, most significant byte first (R185) -/

/-- An unsigned two-byte field. -/
def num16 (b1 b0 : Byte) : Nat := b1.toNat * 256 + b0.toNat

/-- An unsigned four-byte field. -/
def num32 (b3 b2 b1 b0 : Byte) : Nat := num16 b3 b2 * 65536 + num16 b1 b0

/-- A signed two-byte field. -/
def signed16 (b1 b0 : Byte) : Int := (b1 ++ b0).toInt

/-- The two bytes of a number. -/
def bytes16 (n : Nat) : List Byte := [BitVec.ofNat 8 (n / 256), BitVec.ofNat 8 n]

/-- The four bytes of a number. -/
def bytes32 (n : Nat) : List Byte := bytes16 (n / 65536) ++ bytes16 n

/-- The two bytes of a signed number. -/
def signedBytes16 (n : Int) : List Byte := bytes16 (BitVec.ofInt 16 n).toNat

/-! ### Clamping (00_scope, Conventions, "Arithmetic") -/

/-- `n` clamped to [lo, hi]. -/
def clampNat (lo hi n : Nat) : Nat := if n < lo then lo else if hi < n then hi else n

/-- `n` clamped to [lo, hi]. -/
def clampInt (lo hi n : Int) : Int := if n < lo then lo else if hi < n then hi else n

/-! ### Numbers of chutes and nozzles (00_scope, Conventions, "Numbering") -/

/-- The global nozzle id of a nozzle of a chute. -/
def globalId (h : Chute) (n : Nat) : Nat := h.val * Config.nozzlesPerChute + n

/-- The chute of a global nozzle id. -/
def chuteOf (g : Nat) : Chute := Fin.ofNat 4 (g / Config.nozzlesPerChute)

/-- The nozzle number of a global nozzle id within its chute. -/
def numberOf (g : Nat) : Nat := g % Config.nozzlesPerChute

/-- The chute that a byte names, none above 3. -/
def chuteByte (b : Byte) : Option Chute := if h : b.toNat < 4 then some ⟨b.toNat, h⟩ else none

/-- The other lane of a bus. -/
def otherLane : Lane → Lane
  | .a => .b
  | .b => .a

/-- The other bank of the pair (R20). -/
def otherBank : Bank → Bank
  | .x => .y
  | .y => .x

end Sys2Proof.Machine
end

