-- ==== Sys2Proof/Machine/Formats.lean ====
section
/-! DEFINITION. The byte layouts of chapter 12: the cyclic checks, the records of the sighting link, the transmissions of
the valve bus, the frames of the control link, and the entries and records they carry. -/

namespace Sys2Proof.Machine

/-! ### Cyclic checks (R187) -/

/-- One bit of the CRC-8, polynomial 0x07, most significant bit first. -/
def crc8Bit (c : BitVec 8) : BitVec 8 := if c.msb then (c <<< 1) ^^^ 0x07#8 else c <<< 1

/-- The CRC-8 after one more byte. -/
def crc8Byte (c : BitVec 8) (b : Byte) : BitVec 8 :=
  crc8Bit (crc8Bit (crc8Bit (crc8Bit (crc8Bit (crc8Bit (crc8Bit (crc8Bit (c ^^^ b))))))))

/-- The CRC-8 of the sighting link and the valve bus, initial value 0xFF. -/
def crc8 (bytes : List Byte) : BitVec 8 := bytes.foldl crc8Byte 0xFF#8

/-- One bit of the CRC-16, polynomial 0x1021, most significant bit first. -/
def crc16Bit (c : BitVec 16) : BitVec 16 := if c.msb then (c <<< 1) ^^^ 0x1021#16 else c <<< 1

/-- The CRC-16 after one more byte. -/
def crc16Byte (c : BitVec 16) (b : Byte) : BitVec 16 :=
  crc16Bit (crc16Bit (crc16Bit (crc16Bit (crc16Bit (crc16Bit (crc16Bit (crc16Bit (c ^^^ (b ++ 0#8)))))))))

/-- The CRC-16 of the control link, initial value 0xFFFF. -/
def crc16 (bytes : List Byte) : BitVec 16 := bytes.foldl crc16Byte 0xFFFF#16

/-! ### The sighting link (12.2) -/

/-- The kind byte of a sighting record. -/
def kindSighting : Byte := 0x53
/-- The kind byte of a verdict record. -/
def kindVerdict : Byte := 0x56

/-- A completed record, as its check and its kind tell it (R11). -/
inductive Record where
  /-- The check fails or the kind is unknown: the receiver resynchronises. -/
  | bad
  /-- A verdict record with an unknown verdict code: the receiver stays aligned. -/
  | badCode
  | sighting (g : Sighting)
  | verdict (chute : Chute) (tag : Byte) (confirm : Bool)
  deriving DecidableEq, Repr

/-- The chute in bits 7 to 6 of a record's byte 1. -/
def recordChute (b1 : Byte) : Chute := Fin.ofNat 4 (b1.toNat / 64)

/-- A column field as corrected at decode: a value above 639 becomes 639 (R12). -/
def decodeColumn (c : Nat) : Nat := min c (Config.columnsPerChute - 1)

/-- Decodes the fields of a sighting record, with the corrections of R12. -/
def decodeSighting (b1 b2 b3 b4 b5 b6 b7 b8 b9 b10 : Byte) : Sighting :=
  let columns := num16 b5 b6 * 256 + b7.toNat
  let first := decodeColumn (columns / 16384 % 1024)
  let last := decodeColumn (columns / 16 % 1024)
  { chute := recordChute b1
    side := if b1.getLsbD 5 then .rear else .front
    tag := b2
    stamp := b3 ++ b4
    c0 := min first last
    c1 := max first last
    cls := b1.toNat % 16
    size := max 1 (num16 b8 b9 % 4096)
    conf := b10.toNat }

/-- Checks and decodes a record of twelve bytes (R11, R12, 12.2). -/
def decodeRecord : List Byte → Record
  | [b0, b1, b2, b3, b4, b5, b6, b7, b8, b9, b10, b11] =>
    if crc8 [b0, b1, b2, b3, b4, b5, b6, b7, b8, b9, b10] ≠ b11 then .bad
    else if b0 = kindSighting then .sighting (decodeSighting b1 b2 b3 b4 b5 b6 b7 b8 b9 b10)
    else if b0 = kindVerdict then
      if b3 = 1 then .verdict (recordChute b1) b2 true
      else if b3 = 2 then .verdict (recordChute b1) b2 false
      else .badCode
    else .bad
  | _ => .bad

/-! ### The valve bus (12.3) -/

/-- The kind code of a valve command. -/
def busKindCode : BusKind → BitVec 4
  | .opn => 1
  | .close => 2
  | .closeAll => 3

/-- The three bytes of the send a transaction is making. -/
def valveCommand (t : Transaction) : List Byte :=
  let b0 : Byte := t.tag ++ busKindCode t.kind
  let b1 : Byte := match t.kind with
    | .closeAll => 0
    | _ => BitVec.ofNat 8 (numberOf t.nozzle)
  [b0, b1, crc8 [b0, b1]]

/-- A reply with a correct check and a known result: its tag, whether the result is DONE (else COIL FAULT), and its
latency m. -/
structure ValveReply where
  tag : BitVec 4
  done : Bool
  latency : Nat
  deriving DecidableEq, Repr

/-- Reads a valve reply; none for a bad check, an unknown result code or a wrong length (R118, 12.3). -/
def decodeValveReply : List Byte → Option ValveReply
  | [b0, b1, b2, b3] =>
    if crc8 [b0, b1, b2] ≠ b3 then none
    else
      let latency := b1.toNat % 16 * 256 + b2.toNat
      if b0.toNat % 16 = 1 then some ⟨b0.extractLsb' 4 4, true, latency⟩
      else if b0.toNat % 16 = 2 then some ⟨b0.extractLsb' 4 4, false, latency⟩
      else none
  | _ => none

/-! ### The control link (12.4) -/

/-- The START byte of a frame. -/
def startByte : Byte := 0xA5

/-- The bytes from ADDRESS to the last byte of PAYLOAD. -/
def frameBody (addr kind : Byte) (payload : List Byte) : List Byte :=
  addr :: kind :: BitVec.ofNat 8 payload.length :: payload

/-- A whole frame. -/
def frameBytes (addr kind : Byte) (payload : List Byte) : List Byte :=
  let body := frameBody addr kind payload
  startByte :: (body ++ bytes16 (crc16 body).toNat)

/-- The code of a result. -/
def resultCode : Result → Byte
  | .done => 0
  | .clamped => 1
  | .unknown => 2
  | .malformed => 3
  | .notNow => 4
  | .outOfRange => 5
  | .noWindow => 6
  | .notLoaded => 7
  | .settling => 8
  | .cold => 9

/-- The frame of a reply from the part with this individual address: its KIND carries the reply mark. -/
def replyFrame (address : Byte) (r : Reply) : List Byte :=
  frameBytes address (r.kind ||| 0x80#8) (resultCode r.result :: r.payload)

/-- A bit as a byte. -/
def bit (b : Bool) : Byte := if b then 1 else 0

/-- A byte from its bits, least significant first. -/
def bitsByte (bits : List Bool) : Byte :=
  BitVec.ofNat 8 (bits.foldr (fun b n => b.toNat + 2 * n) 0)

/-! ### Table entries (12.4, "Table entries") -/

/-- An entry of one of the four tables. -/
inductive TableEntry where
  | columnMap (e : ColumnEntry)
  | chute (e : ChuteEntry)
  | cls (e : ClassEntry)
  | pulse (width : Nat)
  deriving DecidableEq, Repr

/-- The table of a WINDOW's table code. -/
def tableOf (b : Byte) : Option TableId :=
  if b = 0 then some .columnMap else if b = 1 then some .chute else if b = 2 then some .cls
  else if b = 3 then some .pulse else none

/-- A table's final index (2.2). -/
def finalIndex : TableId → Nat
  | .columnMap => 2559
  | .chute => 3
  | .cls => 15
  | .pulse => 127

/-- The LENGTH of a PUT of a table's entry. -/
def entryLength : TableId → Nat
  | .columnMap => 2
  | .chute => 11
  | .cls => 5
  | .pulse => 2

/-- A nozzle number field: 40 to 255 encode NONE (R21, R28). -/
def nozzleField (b : Byte) : Option Nat := if b.toNat < Config.nozzlesPerChute then some b.toNat else none

/-- The byte of a nozzle number, 255 for NONE (R185). -/
def nozzleByte : Option Nat → Byte
  | some n => BitVec.ofNat 8 n
  | none => 255

/-- The default policy of a code: any code but FIRE is replaced by PASS (R28). -/
def policyOf (b : Byte) : Policy := if b = 1 then .fire else .pass

/-- The entry of a PUT's payload as the table stores it, and whether a field was replaced (R21 to R24, R28). None where
the LENGTH is not the table's. -/
def readEntry : TableId → List Byte → Option (TableEntry × Bool)
  | .columnMap, [p, a] => some (.columnMap ⟨nozzleField p, nozzleField a⟩, false)
  | .chute, [f1, f0, t1, t0, r, bf1, bf0, bl1, bl0, cap, learn] =>
    let flight := num16 f1 f0
    let trim := signed16 t1 t0
    let lag := r.toInt
    let bandFirst := num16 bf1 bf0
    let bandLast := num16 bl1 bl0
    let airCap := cap.toNat
    let e : ChuteEntry :=
      { flight := clampNat 2000 60000 flight
        trim := clampInt (-512) 511 trim
        lag := clampInt (-16) 16 lag
        bandFirst := clampNat 0 639 bandFirst
        bandLast := clampNat 0 639 bandLast
        airCap := clampNat 1 40 airCap
        learning := learn.getLsbD 0 }
    some (.chute e, !(e.flight == flight && e.trim == trim && e.lag == lag && e.bandFirst == bandFirst
      && e.bandLast == bandLast && e.airCap == airCap))
  | .cls, [o1, o0, p, th, d] =>
    let offset := signed16 o1 o0
    let e : ClassEntry :=
      { offset := clampInt (-2000) 2000 offset
        prio := clampNat 0 7 p.toNat
        threshold := th.toNat
        policy := policyOf d }
    some (.cls e, !(e.offset == offset && e.prio == p.toNat && d.toNat ≤ 1))
  | .pulse, [w1, w0] =>
    let width := num16 w1 w0
    some (.pulse (clampNat 0 10000 width), !(clampNat 0 10000 width == width))
  | _, _ => none

/-- The bytes of an entry. -/
def entryBytes : TableEntry → List Byte
  | .columnMap e => [nozzleByte e.primary, nozzleByte e.alternate]
  | .chute e =>
    bytes16 e.flight ++ signedBytes16 e.trim ++ [BitVec.ofInt 8 e.lag] ++ bytes16 e.bandFirst ++ bytes16 e.bandLast
      ++ [BitVec.ofNat 8 e.airCap, bit e.learning]
  | .cls e =>
    signedBytes16 e.offset ++ [BitVec.ofNat 8 e.prio, BitVec.ofNat 8 e.threshold,
      match e.policy with | .pass => 0 | .fire => 1]
  | .pulse w => bytes16 w

/-! ### The nozzle record (12.4, "The nozzle record") -/

/-- The code of a nozzle state. -/
def nozzleStateCode : NozzleState → Byte
  | .inService => 0
  | .masked => 1
  | .failed => 2

/-- The code of a last result. -/
def lastResultCode : LastResult → Byte
  | .none => 0
  | .done => 1
  | .noReply => 2
  | .coilFault => 3

/-- The code of a failure cause. -/
def causeCode : FailureCause → Byte
  | .none => 0
  | .misses => 1
  | .openCoilFault => 2
  | .closeNotConfirmed => 3

/-- The code of an earliest phase, 0 for NONE. -/
def phaseCode : Option Phase → Byte
  | none => 0
  | some .waiting => 1
  | some .opening => 2
  | some .opened => 3
  | some .closing => 4

/-- The seventeen bytes of a nozzle record with its queue's count and earliest phase (R64, R135). -/
def nozzleBytes (g : Nat) (r : NozzleRecord) (queue : List Entry) : List Byte :=
  [BitVec.ofNat 8 g, nozzleStateCode r.state] ++ signedBytes16 r.offset ++ bytes16 r.latency ++ bytes32 r.wear
    ++ [BitVec.ofNat 8 r.misses, lastResultCode r.lastResult] ++ bytes16 r.lastLatency
    ++ [causeCode r.cause, BitVec.ofNat 8 queue.length, phaseCode (queue.head?.map (·.phase))]

/-- The code of an operating state (12.4, "The POLL record"). -/
def opCode : OpState → Byte
  | .standby => 0
  | .run => 1
  | .purge => 2
  | .windDown => 3
  | .halt => 4

end Sys2Proof.Machine
end

