-- ==== Sys2Proof/Machine/Flags.lean ====
section
/-! DEFINITION. Counters, notices, ATTN and HOLD: what the other blocks count, raise and release. -/

namespace Sys2Proof.Machine

/-! ### Tallies (R180) -/

/-- Adds `n` to a 32-bit saturating counter (00_scope, "Counters"; R180). -/
def satAdd (c n : Nat) : Nat := min (c + n) Config.counterMax

/-- The counters of a sighting record. -/
inductive SightingCounter where
  | seen | planned | merged | passed | blind | untimely | crowded | dismissed | abandoned | defaulted | clipped
  deriving DecidableEq, Repr

/-- The counters of a chute record. -/
inductive ChuteCounter where
  | refused | overflow | duplicateTags | verdictsLate | verdictsUnknown | opened | unconfirmed | dryFirings | starved
  | cut | retries | laneFlips | firingsAbandoned
  deriving DecidableEq, Repr

/-- A counter of a sighting record. -/
def SightingTally.get (t : SightingTally) : SightingCounter → Nat
  | .seen => t.seen
  | .planned => t.planned
  | .merged => t.merged
  | .passed => t.passed
  | .blind => t.blind
  | .untimely => t.untimely
  | .crowded => t.crowded
  | .dismissed => t.dismissed
  | .abandoned => t.abandoned
  | .defaulted => t.defaulted
  | .clipped => t.clipped

/-- Raises one counter of a sighting record by `n`. -/
def SightingTally.add (t : SightingTally) (c : SightingCounter) (n : Nat) : SightingTally :=
  match c with
  | .seen => { t with seen := satAdd t.seen n }
  | .planned => { t with planned := satAdd t.planned n }
  | .merged => { t with merged := satAdd t.merged n }
  | .passed => { t with passed := satAdd t.passed n }
  | .blind => { t with blind := satAdd t.blind n }
  | .untimely => { t with untimely := satAdd t.untimely n }
  | .crowded => { t with crowded := satAdd t.crowded n }
  | .dismissed => { t with dismissed := satAdd t.dismissed n }
  | .abandoned => { t with abandoned := satAdd t.abandoned n }
  | .defaulted => { t with defaulted := satAdd t.defaulted n }
  | .clipped => { t with clipped := satAdd t.clipped n }

/-- A counter of a chute record. -/
def ChuteTally.get (t : ChuteTally) : ChuteCounter → Nat
  | .refused => t.refused
  | .overflow => t.overflow
  | .duplicateTags => t.duplicateTags
  | .verdictsLate => t.verdictsLate
  | .verdictsUnknown => t.verdictsUnknown
  | .opened => t.opened
  | .unconfirmed => t.unconfirmed
  | .dryFirings => t.dryFirings
  | .starved => t.starved
  | .cut => t.cut
  | .retries => t.retries
  | .laneFlips => t.laneFlips
  | .firingsAbandoned => t.firingsAbandoned

/-- Raises one counter of a chute record by `n`. -/
def ChuteTally.add (t : ChuteTally) (c : ChuteCounter) (n : Nat) : ChuteTally :=
  match c with
  | .refused => { t with refused := satAdd t.refused n }
  | .overflow => { t with overflow := satAdd t.overflow n }
  | .duplicateTags => { t with duplicateTags := satAdd t.duplicateTags n }
  | .verdictsLate => { t with verdictsLate := satAdd t.verdictsLate n }
  | .verdictsUnknown => { t with verdictsUnknown := satAdd t.verdictsUnknown n }
  | .opened => { t with opened := satAdd t.opened n }
  | .unconfirmed => { t with unconfirmed := satAdd t.unconfirmed n }
  | .dryFirings => { t with dryFirings := satAdd t.dryFirings n }
  | .starved => { t with starved := satAdd t.starved n }
  | .cut => { t with cut := satAdd t.cut n }
  | .retries => { t with retries := satAdd t.retries n }
  | .laneFlips => { t with laneFlips := satAdd t.laneFlips n }
  | .firingsAbandoned => { t with firingsAbandoned := satAdd t.firingsAbandoned n }

/-- The index of the sighting record of a chute and class. -/
def tallyIndex (h : Chute) (k : Nat) : Nat := h.val * 16 + k

/-- The sighting record of a chute and class. -/
def TallyTable.sighting (t : TallyTable) (h : Chute) (k : Nat) : SightingTally :=
  Tab.get .zero t.sightings (tallyIndex h k)

/-- Replaces the sighting record of a chute and class. -/
def TallyTable.setSighting (t : TallyTable) (h : Chute) (k : Nat) (r : SightingTally) : TallyTable :=
  { t with sightings := Tab.set .zero t.sightings (tallyIndex h k) r }

/-- Counts one event in the sighting record of a chute and class. -/
def TallyTable.countSighting (t : TallyTable) (h : Chute) (k : Nat) (c : SightingCounter) : TallyTable :=
  t.setSighting h k ((t.sighting h k).add c 1)

/-- Counts `n` events in the record of a chute. -/
def TallyTable.countChute (t : TallyTable) (h : Chute) (c : ChuteCounter) (n : Nat) : TallyTable :=
  { t with chutes := t.chutes.modify h fun r => r.add c n }

/-- Counts one sighting outcome or event (R58, R180). -/
def countSighting (h : Chute) (k : Nat) (c : SightingCounter) (s : State) : State :=
  { s with tally := s.tally.countSighting h k c }

/-- Counts one event of a chute (R180). -/
def countChute (h : Chute) (c : ChuteCounter) (s : State) : State :=
  { s with tally := s.tally.countChute h c 1 }

/-- Counts one link error (R11). -/
def countLinkError (s : State) : State :=
  { s with tally := { s.tally with link := { s.tally.link with linkErrors := satAdd s.tally.link.linkErrors 1 } } }

/-- Counts one control error (R167). -/
def countControlError (s : State) : State :=
  { s with tally := { s.tally with link := { s.tally.link with controlErrors := satAdd s.tally.link.controlErrors 1 } } }

/-! ### Notices and ATTN (10.5, 10.6) -/

/-- The place of a kind in the table of R174. -/
def NoticeKind.place : NoticeKind → Nat
  | .nozzleFailed => 0
  | .closeFailed => 1
  | .laneFlipped => 2
  | .heldFull => 3
  | .intakeOverflow => 4
  | .linkError => 5
  | .airLow => 6
  | .estop => 7
  | .bankSwapped => 8
  | .purgeDone => 9
  | .restarted => 10

/-- The eleven kinds in the order of R174. -/
def noticeKinds : List NoticeKind :=
  [.nozzleFailed, .closeFailed, .laneFlipped, .heldFull, .intakeOverflow, .linkError, .airLow, .estop, .bankSwapped,
    .purgeDone, .restarted]

/-- The record of a kind. -/
def NoticeTable.record (n : NoticeTable) (k : NoticeKind) : NoticeRecord :=
  Tab.get .clear n.records k.place

/-- Whether a kind that the mask leaves unmasked is pending (R176). -/
def NoticeTable.calls (n : NoticeTable) (mask : BitVec 11) : Bool :=
  noticeKinds.any fun k => (n.record k).pending && !mask.getLsbD k.place

/-- ATTN judged anew: pulled while armed with an unmasked kind pending (R176). -/
def NoticeTable.judge (n : NoticeTable) (mask : BitVec 11) : NoticeTable :=
  { n with attn := n.armed && n.calls mask }

/-- The chute mask of an event: empty for a kind that concerns no chute (R174). -/
def chuteMask : Option Chute → BitVec 4
  | none => 0
  | some h => BitVec.twoPow 4 h.val

/-- Sets a notice: pending, count raised to at most 255, chute added to the mask, ATTN judged (R174, R176). -/
def NoticeTable.set (n : NoticeTable) (mask : BitVec 11) (k : NoticeKind) (h : Option Chute) : NoticeTable :=
  let r := n.record k
  let r' : NoticeRecord := ⟨true, min (r.count + 1) Config.noticeCountMax, r.mask ||| chuteMask h⟩
  NoticeTable.judge { n with records := Tab.set .clear n.records k.place r' } mask

/-- An owning block sets a notice (R174). -/
def setNotice (k : NoticeKind) (h : Option Chute) (s : State) : State :=
  { s with notices := s.notices.set s.settings.noticeMask k h }

/-! ### HOLD (R17) -/

/-- HOLD after the intake has come to hold `count` sightings. -/
def holdAfter (count : Nat) (hold : Bool) : Bool :=
  if Config.holdRise ≤ count then true else if count ≤ Config.holdFall then false else hold

/-- The intake replaced, and HOLD reviewed (R17). -/
def SightingPort.withIntake (p : SightingPort) (intake : List Sighting) : SightingPort :=
  { p with intake := intake, hold := holdAfter intake.length p.hold }

end Sys2Proof.Machine
end

