-- ==== Sys2Proof/Machine/Ops.lean ====
section
/-! DEFINITION. The operations that several commands share: tables and banks, nozzle queues and their entries, firing
records, offers, placements, bus requests, nozzle failures, abandonments, the ends of planning, of dry and of purge. -/

namespace Sys2Proof.Machine

/-- A step of a part that is not held in reset: it has its effect; while RSTN is held low nothing is received and no
event takes place (R148). -/
def live (effect : State → State) (s : State) : Host.Outcome State Fault Refusal :=
  .next (if s.ctl.rstn then s else effect s)

/-! ### The operating state -/

/-- Closes the table window (R30). -/
def closeWindow (s : State) : State := { s with link := { s.link with window := none } }

/-- Enters an operating state; a change of it closes the window (R30, R147). -/
def enterState (op : OpState) (s : State) : State :=
  let s' := { s with ctl := { s.ctl with op := op } }
  if s.ctl.op = op then s' else closeWindow s'

/-! ### Banks (2.1) -/

/-- A physical bank's data. -/
def TableBanks.data (b : TableBanks) : Bank → BankData
  | .x => b.x
  | .y => b.y

/-- Replaces a physical bank's data. -/
def TableBanks.setData (b : TableBanks) (bank : Bank) (d : BankData) : TableBanks :=
  match bank with
  | .x => { b with x := d }
  | .y => { b with y := d }

/-- The STAGING bank (R20). -/
def TableBanks.staging (b : TableBanks) : Bank := otherBank b.working

/-- A CHUTE entry. -/
def BankData.chuteEntry (d : BankData) (h : Chute) : ChuteEntry := Tab.get .zero d.chute h.val
/-- A CLASS entry. -/
def BankData.classEntry (d : BankData) (k : Nat) : ClassEntry := Tab.get .zero d.cls k
/-- A COLUMN MAP entry: index chute × 640 + column. -/
def BankData.columnEntry (d : BankData) (h : Chute) (c : Nat) : ColumnEntry :=
  Tab.get .zero d.columnMap (h.val * Config.columnsPerChute + c)
/-- A PULSE width: index class × 8 + size band (R24). -/
def BankData.pulseWidth (d : BankData) (k b : Nat) : Nat := Tab.get 0 d.pulse (k * 8 + b)

/-- The CHUTE entry of a chute in the WORKING bank (R20). -/
def workingChute (s : State) (h : Chute) : ChuteEntry := (s.banks.data s.banks.working).chuteEntry h

/-- Whether all four tables of a bank are loaded (R26). -/
def LoadedFlags.all (f : LoadedFlags) : Bool := f.columnMap && f.chute && f.cls && f.pulse

/-- Sets or clears one table's loaded flag (R26). -/
def LoadedFlags.put (f : LoadedFlags) (t : TableId) (v : Bool) : LoadedFlags :=
  match t with
  | .columnMap => { f with columnMap := v }
  | .chute => { f with chute := v }
  | .cls => { f with cls := v }
  | .pulse => { f with pulse := v }

/-! ### Nozzle records and queues -/

/-- The nozzle record of a global id (R131). -/
def State.nozzle (s : State) (g : Nat) : NozzleRecord := Tab.get .cold s.nozzles g

/-- Replaces a nozzle record. -/
def State.setNozzle (s : State) (g : Nat) (r : NozzleRecord) : State :=
  { s with nozzles := Tab.set .cold s.nozzles g r }

/-- Whether a nozzle is IN SERVICE. -/
def State.inService (s : State) (g : Nat) : Bool := (s.nozzle g).state == .inService

/-- The queue of a global id, earliest entry first (R60). -/
def State.queue (s : State) (g : Nat) : List Entry := Tab.get [] s.firing.queues g

/-- Replaces a queue. -/
def State.setQueue (s : State) (g : Nat) (q : List Entry) : State :=
  { s with firing := { s.firing with queues := Tab.set [] s.firing.queues g q } }

/-- The open count of a chute (R94). -/
def State.openCount (s : State) (h : Chute) : Nat := s.firing.openCount.get h

/-- Changes a chute's open count. -/
def State.setOpenCount (s : State) (h : Chute) (n : Nat) : State :=
  { s with firing := { s.firing with openCount := s.firing.openCount.set h n } }

/-- Every queue is empty. -/
def queuesEmpty (s : State) : Bool := s.firing.queues.all fun p => p.2.isEmpty

/-- Every queue of a chute is empty. -/
def chuteQueuesEmpty (s : State) (h : Chute) : Bool :=
  s.firing.queues.all fun p => chuteOf p.1 != h || p.2.isEmpty

/-- Takes the entry of an identity out of a queue. -/
def removeEntry (g ident : Nat) (s : State) : State :=
  s.setQueue g ((s.queue g).filter fun e => e.ident != ident)

/-- Changes the entry of an identity in a queue. -/
def updateEntry (g ident : Nat) (f : Entry → Entry) (s : State) : State :=
  s.setQueue g ((s.queue g).map fun e => if e.ident = ident then f e else e)

/-- The entry of an identity in a queue. -/
def findEntry (s : State) (g ident : Nat) : Option Entry := (s.queue g).find? fun e => e.ident == ident

/-- The kind of an entry's firing record; WET while it has none. -/
def Entry.kind (e : Entry) : FiringKind := (e.firing.map (·.kind)).getD .wet

/-- Whether an entry holds a share of air: OPENING or OPEN (R94). -/
def Entry.holdsAir (e : Entry) : Bool := e.phase == .opening || e.phase == .opened

/-- Whether an entry has a WET firing record. -/
def Entry.isWet (e : Entry) : Bool :=
  match e.firing with
  | some r => r.kind == .wet
  | none => false

/-- Whether some dispatcher holds a WET firing record (R106). -/
def anyWet (s : State) : Bool := s.firing.queues.any fun p => p.2.any Entry.isWet

/-! ### Bus requests (R114, R116) -/

/-- The bus controller of a chute. -/
def State.busOf (s : State) (h : Chute) : BusController := s.bus.get h

/-- Replaces a chute's bus controller. -/
def State.setBus (s : State) (h : Chute) (b : BusController) : State := { s with bus := s.bus.set h b }

/-- Hands over an OPEN or CLOSE request (R114). -/
def handRequest (r : Request) (s : State) : State :=
  let h := chuteOf r.nozzle
  s.setBus h { s.busOf h with requests := (s.busOf h).requests ++ [r] }

/-- Withdraws the waiting OPEN of an entry (R105, R114). -/
def withdrawOpen (g ident : Nat) (s : State) : State :=
  let h := chuteOf g
  s.setBus h { s.busOf h with
    requests := (s.busOf h).requests.filter fun r => !(r.isOpen && r.nozzle == g && r.ident == ident) }

/-- Requests a CLOSE ALL on every chute; one that already waits absorbs it (R116, R124). -/
def requestCloseAll (s : State) : State :=
  { s with bus := s.bus.map fun _ b => { b with closeAll := true } }

/-! ### The ends of going dry and of a purge -/

/-- Ends the going-dry condition when no WET firing record remains (R106). -/
def concludeDry (s : State) : State :=
  if s.ctl.goingDry && !anyWet s then { s with ctl := { s.ctl with goingDry := false, dry := true } } else s

/-- Whether an entry of the purge set is still in its queue (R155). -/
def stillQueued (s : State) (p : Nat × Nat) : Bool := (s.queue p.1).any fun e => e.ident == p.2

/-- Completes the purge: the record is discarded, the state becomes STANDBY, PURGE DONE is set (R155). -/
def completePurge (s : State) : State :=
  setNotice .purgeDone none (enterState .standby { s with ctl := { s.ctl with purge := none } })

/-- Takes the entries that have left their queues out of the purge set, and completes the purge when generation has
ended and the set is empty (R155). -/
def concludePurge (s : State) : State :=
  match s.ctl.purge with
  | none => s
  | some p =>
    let p' := { p with set := p.set.filter (stillQueued s) }
    if p'.ended && p'.set.isEmpty then completePurge s
    else { s with ctl := { s.ctl with purge := some p' } }

/-! ### Removals (4.3) -/

/-- Adds a number of FIRINGS ABANDONED of a chute. -/
def countAbandonedFirings (h : Chute) (n : Nat) (s : State) : State :=
  { s with tally := s.tally.countChute h .firingsAbandoned n }

/-- Removes the WAITING entries of a nozzle that leaves IN SERVICE as ABANDONED (R74). -/
def abandonWaiting (g : Nat) (s : State) : State :=
  let q := s.queue g
  countAbandonedFirings (chuteOf g) (q.countP fun e => e.phase == .waiting)
    (s.setQueue g (q.filter fun e => e.phase != .waiting))

/-- The number of entries of a chute, over all its queues, with a property. -/
def countEntries (s : State) (h : Chute) (f : Entry → Bool) : Nat :=
  (s.firing.queues.map fun p => if chuteOf p.1 = h then p.2.countP f else 0).sum

/-- Counts FIRINGS ABANDONED of every chute for the entries with a property. -/
def countAbandonedWhere (f : Entry → Bool) (s : State) : TallyTable :=
  { s.tally with
    chutes := s.tally.chutes.map fun h r => r.add .firingsAbandoned (countEntries s h f) }

/-- Removes the WAITING entries of an origin from every queue as ABANDONED (R76). -/
def abandonOrigin (o : Origin) (s : State) : State :=
  let goes := fun e : Entry => e.phase == .waiting && e.origin == o
  { s with
    tally := countAbandonedWhere goes s
    firing := { s.firing with
      queues := Tab.mapListed [] (fun _ q => q.filter fun e => !goes e) s.firing.queues } }

/-- Makes an OPENING or OPEN entry CLOSING before its time, by a cut or at the expiry of the wind-down limit (R105): a
waiting OPEN is withdrawn, a WET entry has a CLOSE requested now, a DRY entry leaves its queue. The OPEN request of a
firing record whose OPEN is withdrawn becomes NONE. DESIGN CHOICE, safe: notes/assumptions/32. -/
def closeEarly (g : Nat) (e : Entry) (s : State) : State :=
  let h := chuteOf g
  let s := s.setOpenCount h (s.openCount h - 1)
  match e.kind with
  | .dry => removeEntry g e.ident s
  | .wet =>
    let openReq := (e.firing.map (·.openReq)).getD .none
    let s := if openReq = .waiting then withdrawOpen g e.ident s else s
    let left := if openReq = .waiting then ReqState.none else openReq
    handRequest ⟨false, g, e.ident, s.clk.now⟩
      (updateEntry g e.ident (fun x => { x with phase := .closing, firing := some ⟨.wet, left, .waiting⟩ }) s)

/-- What the expiry of the wind-down limit makes of one entry; none when it leaves its queue (R77, R105). A withdrawn
OPEN leaves its request NONE. DESIGN CHOICE, safe: notes/assumptions/32. -/
def reduceEntry (e : Entry) : Option Entry :=
  match e.phase with
  | .waiting => none
  | .closing => some e
  | .opening | .opened =>
    match e.kind with
    | .dry => none
    | .wet =>
      let openReq := (e.firing.map (·.openReq)).getD .none
      some { e with
        phase := .closing
        firing := some ⟨.wet, if openReq = .waiting then .none else openReq, .waiting⟩ }

/-- The CLOSE requests that the expiry of the wind-down limit hands to a chute's controller (R77, R105), those of one
nozzle in the order of its queue. DESIGN CHOICE, safe: notes/assumptions/33. -/
def reduceRequests (s : State) (h : Chute) : List Request :=
  s.firing.queues.flatMap fun p =>
    if chuteOf p.1 = h then
      (p.2.filter fun e => e.holdsAir && e.kind == .wet).map fun e => ⟨false, p.1, e.ident, s.clk.now⟩
    else []

/-- Reduces every queue at the expiry of the wind-down limit (R77): WAITING entries are removed, OPENING and OPEN entries
become CLOSING with a CLOSE requested and any waiting OPEN withdrawn, each counted FIRINGS ABANDONED. -/
def reduceQueues (s : State) : State :=
  { s with
    tally := countAbandonedWhere (fun e => e.phase != .closing) s
    firing := { s.firing with
      queues := Tab.mapListed [] (fun _ q => q.filterMap reduceEntry) s.firing.queues
      openCount := PerChute.const 0 }
    bus := s.bus.map fun h b =>
      { b with requests := (b.requests.filter fun r => !r.isOpen) ++ reduceRequests s h } }

/-- Empties every queue at an ESTOP (R75, R110): every entry that is not CLOSING is counted FIRINGS ABANDONED, firing
records are discarded, waiting OPENs and CLOSEs are withdrawn, and the open counts become 0. -/
def emptyQueues (s : State) : State :=
  { s with
    tally := countAbandonedWhere (fun e => e.phase != .closing) s
    firing := { s.firing with queues := [], openCount := PerChute.const 0 }
    bus := s.bus.map fun _ b => { b with requests := [] } }

/-! ### Offers (4.2) -/

/-- The result of an offer; `created` and `merged` name the entry that stands for the offer (R70). -/
inductive OfferResult where
  | created (ident : Nat)
  | merged (ident : Nat)
  | crowded
  | blind
  deriving DecidableEq, Repr

/-- Whether an entry touches the firing [c, e) with a valve gap (R66). -/
def Entry.touches (gap : Nat) (c e : Time) (y : Entry) : Bool :=
  atOrBefore (minus y.start gap) e && atOrBefore c (plus y.stop gap)

/-- Puts an entry before the first one that starts after it (R67). -/
def insertEntry (x : Entry) : List Entry → List Entry
  | [] => [x]
  | y :: q => if before x.start y.start then x :: y :: q else y :: insertEntry x q

/-- The entry that the earliest touching entry `y` becomes when the firing [c, e) and the other touching entries are
joined with it (R68). -/
def mergeEntry (y : Entry) (others : List Entry) (c e : Time) (prio : Nat) : Entry :=
  { y with
    start := if y.phase = .waiting then others.foldl (fun t x => earlier t x.start) (earlier y.start c) else y.start
    stop := others.foldl (fun t x => later t x.stop) (later y.stop e)
    prio := others.foldl (fun n x => max n x.prio) (max y.prio prio) }

/-- The queue when `y'` takes the place of the earliest touching entry and the others are absorbed (R68). -/
def absorb (y' : Entry) (others : List Entry) (q : List Entry) : List Entry :=
  (q.filter fun x => !(others.any fun o => o.ident == x.ident)).map fun x => if x.ident = y'.ident then y' else x

/-- The purge set after a merge: an entry that absorbed one of the set is in the set (R155). -/
def mergeSet (g : Nat) (y' : Entry) (others : List Entry) (set : List (Nat × Nat)) : List (Nat × Nat) :=
  let absorbed := fun p : Nat × Nat => p.1 == g && others.any fun o => o.ident == p.2
  let kept := set.filter fun p => !absorbed p
  if set.any absorbed && !kept.contains (g, y'.ident) then kept ++ [(g, y'.ident)] else kept

/-- Offers the firing [c, e) to the queue of nozzle `g` (R65 to R68). -/
def offer (g : Nat) (c e : Time) (prio : Nat) (origin : Origin) (s : State) : State × OfferResult :=
  if !s.inService g then (s, .blind)
  else
    let q := s.queue g
    match q.filter (Entry.touches (s.settings.valveGap.get (chuteOf g)) c e) with
    | [] =>
      if q.length < Config.queueSize then
        let x : Entry := ⟨s.firing.nextIdent, c, e, prio, origin, .waiting, none⟩
        let s' := s.setQueue g (insertEntry x q)
        ({ s' with firing := { s'.firing with nextIdent := s.firing.nextIdent + 1 } }, .created x.ident)
      else (s, .crowded)
    | y :: others =>
      let y' := mergeEntry y others c e prio
      if (y :: others).any (fun x => x.phase == .closing) || others.any (fun x => x.phase != .waiting)
          || s.settings.widthCap < spanOf y'.start y'.stop then (s, .crowded)
      else
        let s' := s.setQueue g (absorb y' others q)
        ({ s' with ctl := { s'.ctl with
            purge := s'.ctl.purge.map fun p => { p with set := mergeSet g y' others p.set } } }, .merged y'.ident)

/-! ### Placement (3.7) -/

/-- The result of one nozzle of a plan (R55). -/
inductive PlaceResult where
  | created | merged | crowded | late | blind
  deriving DecidableEq, Repr

/-- Places one firing of a plan (R55). -/
def placeOne (prio : Nat) (s : State) (f : PlanFiring) : State × PlaceResult :=
  if !s.inService f.nozzle then (s, .blind)
  else if !leadAtLeast s.settings.leadMin f.command s.clk.now then (s, .late)
  else
    match offer f.nozzle f.command f.stop prio .sighting s with
    | (s', .created _) => (s', .created)
    | (s', .merged _) => (s', .merged)
    | (s', .crowded) => (s', .crowded)
    | (s', .blind) => (s', .blind)

/-- Places every firing of a plan, and gathers the results (R55). -/
def placePlan (prio : Nat) : List PlanFiring → State → State × List PlaceResult
  | [], s => (s, [])
  | f :: fs, s =>
    let r := placeOne prio s f
    let rs := placePlan prio fs r.1
    (rs.1, r.2 :: rs.2)

/-- The outcome of a placement (R56). -/
def placementOutcome (rs : List PlaceResult) : SightingCounter :=
  if rs.contains .created then .planned
  else if rs.contains .merged then .merged
  else if rs.contains .crowded then .crowded
  else if rs.contains .late then .untimely
  else .blind

/-- Places a plan and counts its outcome (R55, R56, R58). -/
def placeAndCount (h : Chute) (k prio : Nat) (plan : List PlanFiring) (s : State) : State :=
  let r := placePlan prio plan s
  countSighting h k (placementOutcome r.2) r.1

/-! ### The end of planning -/

/-- Ends the planning operation: the record is discarded, the bank is released, and a settle held open ends (R40, R42,
R33). The take of the next sighting, which follows at once (R18), is the event PLANNER_TAKE.
DEDUCED, unsafe: notes/assumptions/31. -/
def endPlanning (s : State) : State :=
  { s with
    planner := none
    banks := { s.banks with
      lastSwap := if s.banks.settleHeld then none else s.banks.lastSwap
      settleHeld := false } }

/-- Ends the planning of a sighting with an outcome (R40, R58). -/
def endWith (g : Sighting) (c : SightingCounter) (s : State) : State :=
  countSighting g.chute g.cls c (endPlanning s)

/-! ### Giving up work -/

/-- Abandons the planning operation in flight (R19). -/
def abandonPlanning (s : State) : State :=
  match s.planner with
  | none => s
  | some r => endWith r.sighting .abandoned s

/-- Empties the intake, each sighting counted ABANDONED, and reviews HOLD (R16, R17). -/
def emptyIntake (s : State) : State :=
  { s with
    tally := s.port.intake.foldl (fun t g => t.countSighting g.chute g.cls .abandoned) s.tally
    port := s.port.withIntake [] }

/-- Empties the held list, each sighting counted ABANDONED (R91). -/
def emptyHeld (s : State) : State :=
  { s with
    tally := s.verdicts.held.foldl (fun t e => t.countSighting e.chute e.cls .abandoned) s.tally
    verdicts := { s.verdicts with held := [] } }

/-- Empties every expired-tag ring (R91). -/
def emptyRings (s : State) : State := { s with verdicts := { s.verdicts with rings := PerChute.const [] } }

/-! ### Nozzle failures (8.2) -/

/-- Makes a nozzle FAILED with a cause, if it is not FAILED already (R134). -/
def makeFailed (g : Nat) (cause : FailureCause) (s : State) : State :=
  let r := s.nozzle g
  if r.state = .failed then s
  else
    let s' := setNotice .nozzleFailed (some (chuteOf g)) (s.setNozzle g { r with state := .failed, cause := cause })
    if r.state = .inService then abandonWaiting g s' else s'

end Sys2Proof.Machine
end

