-- ==== Sys2Proof/Machine/ControlPort.lean ====
section
/-! DEFINITION. How the control port answers a command (10.1, 10.2): addressing, results, replies, and the transmitter's
own steps REPLY_TURNAROUND_END and REPLY_SENT. -/

namespace Sys2Proof.Machine

/-- The result of a command and the payload of its reply after RESULT (R169, R170). -/
structure Answer where
  result : Result
  payload : List Byte
  deriving DecidableEq, Repr

/-- A refused command changes nothing, and its reply carries the result alone (R169, R170). -/
def refuse (r : Result) (s : State) : State × Answer := (s, ⟨r, []⟩)

/-- A taken command answered DONE without payload. -/
def takeDone (s : State) : State × Answer := (s, ⟨.done, []⟩)

/-- The result of a taken command: CLAMPED if a value was replaced, DONE otherwise (R169). -/
def clampedIf (replaced : Bool) : Result := if replaced then .clamped else .done

/-- What the part does with a frame of this ADDRESS (R168): nothing, act in silence, or act and reply. -/
inductive Route where
  | ignore | silent | reply
  deriving DecidableEq, Repr

/-- The sorting of a frame by its ADDRESS byte (R168, 12.4). -/
def route (s : State) (addr : Byte) : Route :=
  if 64 ≤ addr.toNat then .ignore
  else if addr = 0 then .silent
  else if addr = s.link.address then .reply
  else if addr = s.settings.group then .silent
  else .ignore

/-- Gives a reply to the transmitter (R170). -/
def giveReply (kind : Byte) (a : Answer) (s : State) : State :=
  { s with link := { s.link with tx := .turnaround ⟨kind, a.result, a.payload⟩ s.clk.now } }

/-- Acts on a complete good frame without a reply mark: a command that exists for its reply alone is discarded when it
does not come to the individual address (R168). -/
def answer (addr kind : Byte) (replyOnly : Bool) (cmd : State → State × Answer) (s : State) : State :=
  match route s addr with
  | .ignore => s
  | .silent => if replyOnly then s else (cmd s).1
  | .reply => giveReply kind (cmd s).2 (cmd s).1

/-- The turnaround ends no sooner than 20 µs after the command's last byte (R170). -/
def replyTurnaroundEnd (s : State) : State :=
  match s.link.tx with
  | .turnaround r since =>
    if Config.turnaroundMin ≤ spanOf since s.clk.now then { s with link := { s.link with tx := .sending r } } else s
  | _ => s

/-- The reply's last byte leaves: the transmitter becomes IDLE and the receiver is HUNTING with nothing gathered (R166,
R170). -/
def replySent (s : State) : State :=
  match s.link.tx with
  | .sending _ => { s with link := { s.link with tx := .idle, rx := .hunting } }
  | _ => s

/-- REPLY_TURNAROUND_END (R170). -/
def execReplyTurnaroundEnd (s : State) : Host.Outcome State Fault Refusal := live replyTurnaroundEnd s

/-- REPLY_SENT (R170). -/
def execReplySent (s : State) : Host.Outcome State Fault Refusal := live replySent s

end Sys2Proof.Machine
end

