-- ==== Sys2Proof/Machine/Arbiter.lean ====
section
/-! DEFINITION. The arbiter of each valve bus: sends, the order of the grants, late grants (R100, R113 to R117, R123). -/

namespace Sys2Proof.Machine

/-- The transaction with a new send on a lane, carrying the chute's tag counter, which advances (R113). -/
def send (h : Chute) (t : Transaction) (lane : Lane) (s : State) : State :=
  let b := s.busOf h
  s.setBus h { b with
    tag := b.tag + 1
    inFlight := some { t with lane := lane, tag := b.tag, waitEnd := none } }

/-! ### The arbiter of the bus (R115) -/

/-- Whether request `a` is granted rather than `b` of the same kind: the earlier due time, then the lower nozzle
number (R115). -/
def grantBefore (a b : Request) : Bool :=
  before a.due b.due || (a.due == b.due && a.nozzle < b.nozzle)

/-- The first of the requests by the order of R115; between equals, the one handed over first. -/
def firstRequest : List Request → Option Request
  | [] => none
  | a :: l => some (l.foldl (fun b x => if grantBefore x b then x else b) a)

/-- The request that the arbiter takes: CLOSEs before OPENs (R115). -/
def nextRequest (b : BusController) : Option Request :=
  match firstRequest (b.requests.filter fun r => !r.isOpen) with
  | some r => some r
  | none => firstRequest b.requests

/-- Takes a request out of the waiting requests. -/
def takeRequest (h : Chute) (r : Request) (s : State) : State :=
  s.setBus h { s.busOf h with requests := (s.busOf h).requests.erase r }

/-- Starts the transaction of a granted OPEN or CLOSE on the active lane (R117). -/
def startTransaction (h : Chute) (r : Request) (s : State) : State :=
  send h ⟨if r.isOpen then .opn else .close, r.nozzle, r.ident, .a, 0, false, none, false⟩ (s.busOf h).active s

/-- Starts a granted CLOSE ALL: its first send goes on lane A, whatever the active lane (R123). -/
def startCloseAll (h : Chute) (s : State) : State :=
  send h ⟨.closeAll, 0, 0, .a, 0, false, none, false⟩ .a
    (s.setBus h { s.busOf h with closeAll := false })

/-- Whether a granted OPEN is late: now is at or after its entry's end − WIDTH MIN (R100). -/
def lateGrant (s : State) (e : Entry) : Bool := atOrBefore (minus e.stop s.settings.widthMin) s.clk.now

/-- Removes the entry of a late grant as STARVED, its share of air released (R100). -/
def starveLate (g : Nat) (e : Entry) (s : State) : State :=
  let h := chuteOf g
  countChute h .starved (removeEntry g e.ident (s.setOpenCount h (s.openCount h - 1)))

/-- Grants waiting requests until one is sent or none waits: a late OPEN is not sent and the next is granted at once
(R115). A grant is judged only for an entry that is OPENING (R100); an OPEN without one is dropped unsent. `fuel` bounds
the OPENs found late: one for each request is enough. DESIGN CHOICE, safe: notes/assumptions/22. -/
def grantLoop (h : Chute) : Nat → State → State
  | 0, s => s
  | fuel + 1, s =>
    match nextRequest (s.busOf h) with
    | none => s
    | some r =>
      let s := takeRequest h r s
      if r.isOpen then
        match findEntry s r.nozzle r.ident with
        | none => grantLoop h fuel s
        | some e =>
          if e.phase ≠ .opening then grantLoop h fuel s
          else if lateGrant s e then grantLoop h fuel (starveLate r.nozzle e s)
          else
            startTransaction h r (updateEntry r.nozzle r.ident (fun x => { x with
              firing := x.firing.map fun f => { f with openReq := .inFlight } }) s)
      else
        startTransaction h r (updateEntry r.nozzle r.ident (fun x => { x with
          firing := x.firing.map fun f => { f with closeReq := .inFlight } }) s)

/-- The arbiter's grant, when no transaction is in flight (R115): taken as a transaction ends, and as a request is handed
to an idle controller (R114). With nothing waiting nothing is granted. -/
def grantNext (h : Chute) (s : State) : State :=
  let b := s.busOf h
  if b.inFlight.isSome then s
  else if b.closeAll then startCloseAll h s
  else grantLoop h b.requests.length s

/-- The grants that follow when requests have been handed to several chutes' controllers in one event: each idle
controller grants, once all are handed over (R114, R115). DESIGN CHOICE, safe: notes/assumptions/33. -/
def grantAll (s : State) : State := grantNext 3 (grantNext 2 (grantNext 1 (grantNext 0 s)))

end Sys2Proof.Machine
end

