-- ==== Sys2Proof/Machine/Ends.lean ====
section
/-! DEFINITION. What ends within the event that brings its end about: a wind-down, with the warm reset that follows it
(9.6, 9.7), and at every event that takes entries out of queues also going dry (R106) and a purge (R155). -/

namespace Sys2Proof.Machine

/-! ### The warm reset (R161) -/

/-- A bus controller at the warm reset: lane and tag kept, a transaction in flight left to complete with its reply wait
re-based on the restarted clock, a CLOSE ALL requested (R112, R124). DEDUCED, safe: notes/assumptions/25. -/
def BusController.warm (now : Time) (b : BusController) : BusController where
  active := b.active
  tag := b.tag
  closeAll := true
  requests := []
  inFlight := b.inFlight.map fun t => { t with waitEnd := t.waitEnd.map fun stop => stop - now }

/-- The transmitter at the warm reset: kept, its turnaround re-based on the restarted clock (R165). -/
def Transmitter.warm (now : Time) : Transmitter → Transmitter
  | .turnaround r since => .turnaround r (since - now)
  | t => t

/-- LSYNC at the warm reset: a mark pulse at once, or, where a pulse is in progress, that pulse cut short and LSYNC
driven low before the mark pulse (R6). DESIGN CHOICE, unsafe: notes/assumptions/20. -/
def Lsync.warm : Lsync → Lsync
  | .low => .high (BitVec.ofNat 32 Config.markLength)
  | .high _ | .cut _ _ => .cut (BitVec.ofNat 32 Config.cutLow) (BitVec.ofNat 32 (Config.cutLow + Config.markLength))

/-- The warm reset (R161): every block takes its warm reset values, and the CLOSE ALLs requested after it are granted at
once where no transaction is in flight (R114, R124). -/
def warmReset (s : State) : State :=
  let s' : State :=
    { pending := s.pending
      clk := { LineClock.restarted s.clk.period with lsync := s.clk.lsync.warm }
      port := ⟨.collecting [], [], false⟩
      banks := { s.banks with pendingSwap := none, lastSwap := none, settleHeld := false }
      planner := none
      verdicts := ⟨[], PerChute.const []⟩
      firing := { s.firing with queues := [], openCount := PerChute.const 0 }
      bus := s.bus.map fun _ b => b.warm s.clk.now
      nozzles := s.nozzles
      ctl := { s.ctl with
        op := if s.ctl.estop then .halt else .standby
        dry := false
        goingDry := false
        windDown := none
        purge := none
        resetDue := false }
      link := { s.link with window := none, rx := .hunting, tx := s.link.tx.warm s.clk.now }
      settings := s.settings
      notices := .cleared
      tally := .zero }
  let s' := setNotice .restarted none s'
  grantAll (if s.ctl.estop then setNotice .estop none s' else s')

/-! ### The end of a wind-down (R159) -/

/-- The wind-down's work is done: intake and held list empty, planner IDLE, every queue empty (R159). -/
def workDone (s : State) : Bool :=
  s.port.intake.isEmpty && s.planner.isNone && s.verdicts.held.isEmpty && queuesEmpty s

/-- Ends a wind-down whose work is done, by the warm reset, in the event that has emptied the last of it (R159). -/
def endWindDown (s : State) : State := if s.ctl.op = .windDown ∧ workDone s = true then warmReset s else s

/-- What is judged at every event that takes entries out of queues: going dry (R106), the purge (R155) and the end of a
wind-down (R159). DEDUCED, unsafe: notes/assumptions/6. -/
def conclude (s : State) : State := endWindDown (concludePurge (concludeDry s))

/-- The warm reset that an emergency stop in WIND-DOWN owes, taken before any other event of the state controller (R162).
DEDUCED, unsafe: notes/assumptions/7. -/
def takeOwedReset (s : State) : State := if s.ctl.resetDue then warmReset s else s

end Sys2Proof.Machine
end

