-- ==== Sys2Proof/Machine/Dispatcher.lean ====
section
/-! DEFINITION. The dispatchers and the air budget (chapter 6): ENTRY_START, ENTRY_END and DRY_FLAG_SET. -/

namespace Sys2Proof.Machine

/-- The effective air cap of a chute, from the WORKING CHUTE record and the AIRLOW level at this moment (R95). -/
def effectiveCap (s : State) (h : Chute) : Nat :=
  let cap := (workingChute s h).airCap
  if s.ctl.airlow then max 1 (cap / 2) else cap

/-- The kind of a firing that starts now: DRY if the part is going dry or the DRY flag is set (R97). -/
def startKind (s : State) : FiringKind := if s.ctl.goingDry || s.ctl.dry then .dry else .wet

/-- Admits a WAITING entry (R97). -/
def admitEntry (g : Nat) (x : Entry) (s : State) : State :=
  let h := chuteOf g
  let kind := startKind s
  let s := s.setOpenCount h (s.openCount h + 1)
  match kind with
  | .wet =>
    handRequest ⟨true, g, x.ident, x.start⟩
      (updateEntry g x.ident (fun e => { e with phase := .opening, firing := some ⟨.wet, .waiting, .none⟩ }) s)
  | .dry =>
    countChute h .dryFirings
      (updateEntry g x.ident (fun e => { e with phase := .opened, firing := some ⟨.dry, .none, .none⟩ }) s)

/-- Removes a WAITING entry that is denied its air as STARVED (R72). -/
def starveEntry (g : Nat) (x : Entry) (s : State) : State :=
  countChute (chuteOf g) .starved (removeEntry g x.ident s)

/-- The entries of a chute that hold air, with their global nozzle ids (R98). -/
def holders (s : State) (h : Chute) : List (Nat × Entry) :=
  s.firing.queues.flatMap fun p =>
    if chuteOf p.1 = h then (p.2.filter Entry.holdsAir).map fun e => (p.1, e) else []

/-- Whether the arbiter cuts `a` rather than `b`: the lower priority, then the later end, then the lower id (R98). -/
def cutBefore (a b : Nat × Entry) : Bool :=
  a.2.prio < b.2.prio ||
    (a.2.prio == b.2.prio &&
      (before b.2.stop a.2.stop || (a.2.stop == b.2.stop && a.1 < b.1)))

/-- The victim among the holders of air (R98). -/
def victim : List (Nat × Entry) → Option (Nat × Entry)
  | [] => none
  | a :: l => some (l.foldl (fun b x => if cutBefore x b then x else b) a)

/-- The start judged by the arbiter, the open count being at the cap: a strictly higher priority cuts the victim and is
admitted, any other is starved (R98). DESIGN CHOICE, safe: notes/assumptions/21. -/
def arbitrate (g : Nat) (x : Entry) (s : State) : State :=
  match victim (holders s (chuteOf g)) with
  | some v =>
    if v.2.prio < x.prio then
      admitEntry g x (closeEarly v.1 v.2 (countChute (chuteOf g) .cut s))
    else starveEntry g x s
  | none => starveEntry g x s

/-- The judgement of a start (R97 to R99). -/
def judgeStart (g : Nat) (x : Entry) (s : State) : State :=
  let h := chuteOf g
  if s.openCount h < effectiveCap s h then admitEntry g x s
  else if s.openCount h = effectiveCap s h then arbitrate g x s
  else starveEntry g x s

/-- The WAITING entry of a queue whose start has come. -/
def startingEntry (s : State) (g : Nat) : Option Entry :=
  (s.queue g).find? fun e => e.phase == .waiting && due e.start s.clk.now

/-- The OPEN entry of a queue whose end has come. -/
def endingEntry (s : State) (g : Nat) : Option Entry :=
  (s.queue g).find? fun e => e.phase == .opened && due e.stop s.clk.now

/-- The start of an entry of nozzle `g` (R97 to R99): what it hands to an idle controller is granted at once, a victim's
CLOSE before the OPEN (R98, R114, R115). -/
def entryStart (g : Nat) (s : State) : State :=
  match startingEntry s g with
  | some x => conclude (grantNext (chuteOf g) (judgeStart g x s))
  | none => s

/-- Ends an OPEN entry: a WET one becomes CLOSING with a CLOSE requested, a DRY one leaves its queue; the open count
falls by one (R103). -/
def endEntry (g : Nat) (e : Entry) (s : State) : State :=
  let h := chuteOf g
  let s := s.setOpenCount h (s.openCount h - 1)
  match e.kind with
  | .wet =>
    handRequest ⟨false, g, e.ident, e.stop⟩
      (updateEntry g e.ident (fun x => { x with
        phase := .closing
        firing := x.firing.map fun r => { r with closeReq := .waiting } }) s)
  | .dry => removeEntry g e.ident s

/-- The end of an entry of nozzle `g` (R103): a CLOSE handed to an idle controller is granted at once (R114, R115). -/
def entryEnd (g : Nat) (s : State) : State :=
  match endingEntry s g with
  | some e => conclude (grantNext (chuteOf g) (endEntry g e s))
  | none => s

/-- ENTRY_START: taken when the start of a WAITING entry of the queue has come (R63, R97). -/
def execEntryStart (g : Nat) (s : State) : Host.Outcome State Fault Refusal := live (entryStart g) s

/-- ENTRY_END: taken when the end of an OPEN entry of the queue has come (R63, R103). -/
def execEntryEnd (g : Nat) (s : State) : Host.Outcome State Fault Refusal := live (entryEnd g) s

/-- DRY_FLAG_SET: the going-dry condition ends when no WET firing record remains (R106). -/
def execDryFlagSet (s : State) : Host.Outcome State Fault Refusal := live concludeDry s

end Sys2Proof.Machine
end

