-- ==== Sys2Proof/Machine/NoticeCommands.lean ====
section
/-! DEFINITION. POLL, NOTICES and REARM (10.4 to 10.6): what each does once its frame is acted on. -/

namespace Sys2Proof.Machine

/-- Bits of a list of flags, the first the least significant. -/
def flagsNat (bits : List Bool) : Nat := bits.foldr (fun b n => b.toNat + 2 * n) 0

/-- The pending flags of the eleven kinds, in order of place (12.4). -/
def pendingFlags (n : NoticeTable) : List Bool := noticeKinds.map fun k => (n.record k).pending

/-- The loaded flags of a bank, in table order. -/
def LoadedFlags.list (f : LoadedFlags) : List Bool := [f.columnMap, f.chute, f.cls, f.pulse]

/-- The POLL record (R173, 12.4). -/
def pollRecord (s : State) (asking : Bool) : List Byte :=
  let b := s.banks
  [opCode s.ctl.op, bitsByte [s.ctl.cold, s.ctl.dry, s.ctl.estop, s.ctl.airlow, asking]]
    ++ bytes16 (flagsNat (pendingFlags s.notices))
    ++ [bitsByte ([0, 1, 2, 3].map fun h => (s.busOf h).active == .b),
        bitsByte ((b.data b.working).loaded.list ++ (b.data b.staging).loaded.list),
        bit b.pendingSwap.isSome]
    ++ bytes16 ((b.pendingSwap.map (·.toNat)).getD 0)
    ++ bytes16 s.clk.line.toNat
    ++ bytes32 s.clk.now.toNat

/-- The part stops asking: the armed flag is cleared and ATTN released (R177). -/
def disarm (s : State) : State :=
  { s with notices := NoticeTable.judge { s.notices with armed := false } s.settings.noticeMask }

/-- POLL (R173, R177): it does not close the table window (R30). -/
def cmdPoll (payload : List Byte) (s : State) : State × Answer :=
  match payload with
  | [] =>
    if s.notices.attn then (disarm s, ⟨.done, pollRecord (disarm s) true⟩)
    else (s, ⟨.done, pollRecord s false⟩)
  | _ => refuse .malformed s

/-- The three bytes of a notice record (12.4). -/
def noticeBytes (r : NoticeRecord) : List Byte :=
  [bit r.pending, BitVec.ofNat 8 r.count, r.mask.setWidth 8]

/-- Every notice record cleared, ATTN judged (R175). -/
def clearNotices (s : State) : State :=
  { s with notices := NoticeTable.judge { s.notices with records := [] } s.settings.noticeMask }

/-- NOTICES (R175). -/
def cmdNotices (payload : List Byte) (s : State) : State × Answer :=
  match payload with
  | [] => (clearNotices (closeWindow s), ⟨.done, noticeKinds.flatMap fun k => noticeBytes (s.notices.record k)⟩)
  | _ => refuse .malformed s

/-- The armed flag set, ATTN judged (R178). -/
def rearm (s : State) : State :=
  { s with notices := NoticeTable.judge { s.notices with armed := true } s.settings.noticeMask }

/-- REARM (R178). -/
def cmdRearm (payload : List Byte) (s : State) : State × Answer :=
  match payload with
  | [] => takeDone (rearm (closeWindow s))
  | _ => refuse .malformed s

end Sys2Proof.Machine
end

