-- ==== Sys2Proof/Machine/NozzleCommands.lean ====
section
/-! DEFINITION. NOZZLE READ, NOZZLE WRITE, TEST and LANE (chapter 8, R125): what each does once its frame is acted on. -/

namespace Sys2Proof.Machine

/-- Whether a byte names a global nozzle id. -/
def nozzleIdOk (g : Byte) : Bool := g.toNat < Config.nozzleCount

/-- The nozzle record of a reply, with its queue's count and earliest phase (R64, R135). -/
def nozzleReport (g : Nat) (s : State) : List Byte := nozzleBytes g (s.nozzle g) (s.queue g)

/-- NOZZLE READ (R135). -/
def cmdNozzleRead (payload : List Byte) (s : State) : State × Answer :=
  match payload with
  | [g] =>
    if nozzleIdOk g then (closeWindow s, ⟨.done, nozzleReport g.toNat s⟩) else refuse .outOfRange s
  | _ => refuse .malformed s

/-- The fields that a NOZZLE WRITE carries (8.4, 12.4). -/
structure NozzleFields where
  state : Option Byte
  offset : Option Int
  latency : Option Nat
  wear : Option Nat
  deriving DecidableEq, Repr

/-- Takes a field of one byte off the payload, if its presence bit is set. -/
def takeByte (present : Bool) : List Byte → Option (Option Byte × List Byte)
  | b :: l => if present then some (some b, l) else some (none, b :: l)
  | [] => if present then none else some (none, [])

/-- Takes a field of two bytes off the payload, if its presence bit is set. -/
def takeTwo (present : Bool) : List Byte → Option (Option (Byte × Byte) × List Byte)
  | b1 :: b0 :: l => if present then some (some (b1, b0), l) else some (none, b1 :: b0 :: l)
  | l => if present then none else some (none, l)

/-- Takes a field of four bytes off the payload, if its presence bit is set. -/
def takeFour (present : Bool) : List Byte → Option (Option Nat × List Byte)
  | b3 :: b2 :: b1 :: b0 :: l =>
    if present then some (some (num32 b3 b2 b1 b0), l) else some (none, b3 :: b2 :: b1 :: b0 :: l)
  | l => if present then none else some (none, l)

/-- Reads the present fields in their order; none where the LENGTH does not fit the presence byte (R186). -/
def readFields (presence : Byte) (l : List Byte) : Option NozzleFields := do
  let (state, l) ← takeByte (presence.getLsbD 0) l
  let (offset, l) ← takeTwo (presence.getLsbD 1) l
  let (latency, l) ← takeTwo (presence.getLsbD 2) l
  let (wear, l) ← takeFour (presence.getLsbD 3) l
  if l.isEmpty then
    some ⟨state, offset.map fun p => signed16 p.1 p.2, latency.map fun p => num16 p.1 p.2, wear⟩
  else none

/-- The offset as stored (R137, R139). -/
def clampOffset (o : Int) : Int := clampInt (-255) 255 o

/-- The latency as stored (R137, R139). -/
def clampLatency (v : Nat) : Nat := clampNat 0 Config.latencyMax v

/-- Whether a field of a NOZZLE WRITE is clamped (R137). -/
def NozzleFields.replaced (f : NozzleFields) : Bool :=
  (match f.offset with | some o => clampOffset o != o | none => false) ||
    (match f.latency with | some v => clampLatency v != v | none => false)

/-- The record with its state field written: returning to IN SERVICE clears the misses and the cause (R138). Code 0 is
IN SERVICE, code 1 MASKED. -/
def NozzleRecord.writeState (r : NozzleRecord) (code : Byte) : NozzleRecord :=
  if code = 1 then { r with state := .masked }
  else if r.state = .masked then { r with state := .inService, misses := 0, cause := .none }
  else r

/-- The record with every present field written (R138 to R140). -/
def NozzleFields.apply (f : NozzleFields) (r : NozzleRecord) : NozzleRecord :=
  let r := match f.state with
    | some code => r.writeState code
    | none => r
  { r with
    offset := (f.offset.map clampOffset).getD r.offset
    latency := (f.latency.map clampLatency).getD r.latency
    wear := f.wear.getD r.wear }

/-- A NOZZLE WRITE that is taken: the fields are written, and a nozzle that leaves IN SERVICE loses its WAITING entries
(R137, R138, R74). -/
def writeNozzle (g : Nat) (f : NozzleFields) (s : State) : State :=
  let r := s.nozzle g
  let r' := f.apply r
  let s' := closeWindow (s.setNozzle g r')
  if r.state = .inService ∧ r'.state = .masked then conclude (abandonWaiting g s') else s'

/-- NOZZLE WRITE and its checks in their order (R137, R186). -/
def cmdNozzleWrite (payload : List Byte) (s : State) : State × Answer :=
  match payload with
  | g :: presence :: l =>
    match readFields presence l with
    | none => refuse .malformed s
    | some f =>
      if !nozzleIdOk g ∨ (∃ code ∈ f.state, code ≠ 0 ∧ code ≠ 1) then refuse .outOfRange s
      else if s.ctl.op = .windDown then refuse .notNow s
      else if s.ctl.op = .halt ∧ (f.offset.isSome ∨ f.latency.isSome) then refuse .notNow s
      else if f.state = some 0 ∧ (s.nozzle g.toNat).state = .failed then refuse .notNow s
      else
        let s' := writeNozzle g.toNat f s
        (s', ⟨clampedIf f.replaced, nozzleReport g.toNat s'⟩)
  | _ => refuse .malformed s

/-- TEST and its checks in their order; the TEST firing is offered at now + LEAD MIN (R143, R144). -/
def cmdTest (payload : List Byte) (s : State) : State × Answer :=
  match payload with
  | [g, w1, w0] =>
    if !nozzleIdOk g then refuse .outOfRange s
    else if s.ctl.op ≠ .standby then refuse .notNow s
    else if !s.inService g.toNat then refuse .notNow s
    else if !(s.queue g.toNat).isEmpty then refuse .notNow s
    else
      let width := clampNat s.settings.widthMin s.settings.widthCap (num16 w1 w0)
      let start := plus s.clk.now s.settings.leadMin
      let stop := plus start width
      ((offer g.toNat start stop 0 .test (closeWindow s)).1,
        ⟨clampedIf (width != num16 w1 w0), bytes32 start.toNat ++ bytes32 stop.toNat⟩)
  | _ => refuse .malformed s

/-- The lane that a byte names. -/
def laneByte (b : Byte) : Option Lane := if b = 0 then some .a else if b = 1 then some .b else none

/-- LANE (R125). -/
def cmdLane (payload : List Byte) (s : State) : State × Answer :=
  match payload with
  | [c, l] =>
    match chuteByte c, laneByte l with
    | some h, some lane => takeDone (closeWindow (s.setBus h { s.busOf h with active := lane }))
    | _, _ => refuse .outOfRange s
  | _ => refuse .malformed s

end Sys2Proof.Machine
end

