-- ==== Sys2Proof/Machine/TableCommands.lean ====
section
/-! DEFINITION. WINDOW, PUT, GET and the three forms of SWAP (chapter 2): what each does once its frame is acted on. -/

namespace Sys2Proof.Machine

/-- A swap is pending or a settle is running (R27, R37). -/
def bankBusy (b : TableBanks) : Bool := b.pendingSwap.isSome || b.lastSwap.isSome

/-- Whether a window covers its whole table (R26). -/
def Window.full (w : Window) : Bool := w.first == 0 && w.last == finalIndex w.table

/-- Sets or clears a table's loaded flag in a bank. -/
def setLoaded (bank : Bank) (t : TableId) (v : Bool) (s : State) : State :=
  let d := s.banks.data bank
  { s with banks := s.banks.setData bank { d with loaded := d.loaded.put t v } }

/-- Whether a window for PUT is available for a bank role (R27, second check). -/
def putAvailable (op : OpState) (staging : Bool) : Bool :=
  match op with
  | .standby => true
  | .run | .purge | .halt => staging
  | .windDown => false

/-- A window that passes its checks is opened in place of any other; a full PUT window clears the loaded flag (R26,
R27). -/
def openWindow (w : Window) (s : State) : State :=
  let s := { s with link := { s.link with window := some w } }
  if w.dir = .put ∧ w.full then setLoaded w.bank w.table false s else s

/-- WINDOW (R27). -/
def cmdWindow (payload : List Byte) (s : State) : State × Answer :=
  match payload with
  | [t, flags, f1, f0, l1, l0] =>
    match tableOf t with
    | none => refuse .outOfRange s
    | some table =>
      let staging := flags.getLsbD 0
      let put := flags.getLsbD 1
      let first := num16 f1 f0
      let last := num16 l1 l0
      if last < first ∨ finalIndex table < last then refuse .outOfRange s
      else if put && !putAvailable s.ctl.op staging then refuse .notNow s
      else if put && staging && bankBusy s.banks then refuse .settling s
      else
        let bank := if staging then s.banks.staging else s.banks.working
        takeDone (openWindow ⟨table, bank, first, last, if put then .put else .get, first⟩ s)
  | _ => refuse .malformed s

/-- A window after one transfer: from last the position returns to first (R28, R29). -/
def Window.advance (w : Window) : Window := { w with pos := if w.pos = w.last then w.first else w.pos + 1 }

/-- Writes an entry into a bank (R28). -/
def BankData.write (d : BankData) (i : Nat) : TableEntry → BankData
  | .columnMap e => { d with columnMap := Tab.set .zero d.columnMap i e }
  | .chute e => { d with chute := Tab.set .zero d.chute i e }
  | .cls e => { d with cls := Tab.set .zero d.cls i e }
  | .pulse w => { d with pulse := Tab.set 0 d.pulse i w }

/-- Reads an entry of a bank (R29). -/
def BankData.read (d : BankData) (t : TableId) (i : Nat) : TableEntry :=
  match t with
  | .columnMap => .columnMap (Tab.get .zero d.columnMap i)
  | .chute => .chute (Tab.get .zero d.chute i)
  | .cls => .cls (Tab.get .zero d.cls i)
  | .pulse => .pulse (Tab.get 0 d.pulse i)

/-- Writes an entry at a window's position and advances it; a full window that writes the final index sets the loaded
flag (R26, R28). -/
def putEntry (w : Window) (e : TableEntry) (s : State) : State :=
  let s := { s with
    banks := s.banks.setData w.bank ((s.banks.data w.bank).write w.pos e)
    link := { s.link with window := some w.advance } }
  if w.full && w.pos == finalIndex w.table then setLoaded w.bank w.table true s else s

/-- Whether a LENGTH is one of the three entry lengths (R186). -/
def entryLengthAllowed (n : Nat) : Bool := n == 2 || n == 5 || n == 11

/-- PUT (R28, R186). -/
def cmdPut (payload : List Byte) (s : State) : State × Answer :=
  if !entryLengthAllowed payload.length then refuse .malformed s
  else
    match s.link.window with
    | none => refuse .noWindow s
    | some w =>
      if w.dir = .get then refuse .noWindow s
      else
        match readEntry w.table payload with
        | none => refuse .malformed s
        | some (e, replaced) =>
          (putEntry w e s, ⟨clampedIf replaced, bytes16 w.pos ++ entryBytes e⟩)

/-- GET (R29). -/
def cmdGet (payload : List Byte) (s : State) : State × Answer :=
  match payload with
  | [] =>
    match s.link.window with
    | none => refuse .noWindow s
    | some w =>
      if w.dir = .put then refuse .noWindow s
      else
        ({ s with link := { s.link with window := some w.advance } },
          ⟨.done, bytes16 w.pos ++ entryBytes ((s.banks.data w.bank).read w.table w.pos)⟩)
  | _ => refuse .malformed s

/-- The line that SWAP at line `ls` resolves to: a line already begun or behind is taken as the next line (R31). -/
def resolveLine (n ls : Line) : Line :=
  if 1 ≤ (ls - n).toNat ∧ (ls - n).toNat ≤ 32768 then ls else n + 1

/-- The checks of SWAP at a line or at the next line, and the pending swap line it makes (R31). -/
def requestSwap (ls : Line) (s : State) : State × Answer :=
  if s.ctl.op ≠ .standby ∧ s.ctl.op ≠ .run then refuse .notNow s
  else if s.banks.lastSwap.isSome then refuse .settling s
  else if !(s.banks.data s.banks.staging).loaded.all then refuse .notLoaded s
  else
    (closeWindow { s with banks := { s.banks with pendingSwap := some ls } }, ⟨.done, bytes16 ls.toNat⟩)

/-- SWAP at a line, given the payload after its form byte (R31). -/
def cmdSwapAtLine (rest : List Byte) (s : State) : State × Answer :=
  match rest with
  | [l1, l0] => requestSwap (resolveLine s.clk.line (l1 ++ l0)) s
  | _ => refuse .malformed s

/-- SWAP at the next line, given the payload after its form byte (R31); the line field is not read. -/
def cmdSwapAtNextLine (rest : List Byte) (s : State) : State × Answer :=
  match rest with
  | [_, _] => requestSwap (s.clk.line + 1) s
  | _ => refuse .malformed s

/-- SWAP CANCEL, given the payload after its form byte (R31). -/
def cmdSwapCancel (rest : List Byte) (s : State) : State × Answer :=
  match rest with
  | [_, _] =>
    if s.ctl.op = .windDown then refuse .notNow s
    else takeDone (closeWindow { s with banks := { s.banks with pendingSwap := none } })
  | _ => refuse .malformed s

/-- SWAP with any payload (R186: an unlisted form is refused with OUT OF RANGE). -/
def cmdSwap (payload : List Byte) (s : State) : State × Answer :=
  match payload with
  | form :: rest =>
    if rest.length ≠ 2 then refuse .malformed s
    else if form = 0 then cmdSwapAtLine rest s
    else if form = 1 then cmdSwapAtNextLine rest s
    else if form = 2 then cmdSwapCancel rest s
    else refuse .outOfRange s
  | [] => refuse .malformed s

end Sys2Proof.Machine
end

