-- ==== Sys2Proof/Machine/SettingCommands.lean ====
section
/-! DEFINITION. SET of each of the thirteen settings, and QUERY (10.3): what each does once its frame is acted on. A
SET's `rest` is the payload after its setting id: a chute byte and a value of four bytes (12.4). -/

namespace Sys2Proof.Machine

/-! ### The conditions of the settings table (10.3) -/

/-- Any state except WIND-DOWN. -/
def notWindDown (s : State) : Bool := s.ctl.op != .windDown
/-- STANDBY. -/
def inStandby (s : State) : Bool := s.ctl.op == .standby
/-- STANDBY, all queues empty. -/
def standbyAllEmpty (s : State) : Bool := inStandby s && queuesEmpty s
/-- STANDBY, no swap pending, no settle running. -/
def standbyNoSwap (s : State) : Bool := inStandby s && !bankBusy s.banks
/-- STANDBY, the 40 queues of the chute empty. -/
def standbyChuteEmpty (h : Chute) (s : State) : Bool := inStandby s && chuteQueuesEmpty s h

/-! ### SET -/

/-- The settings changed. -/
def updateSettings (f : Settings → Settings) (s : State) : State := { s with settings := f s.settings }

/-- The reply payload of SET and QUERY: setting id, chute, value (12.4). A setting without a chute carries chute 0. -/
def settingReport (id chute : Byte) (value : Nat) : List Byte := id :: chute :: bytes32 value

/-- A numeric setting's SET: refused when its condition does not hold, else clamped to [lo, hi] and stored; the window
is closed (R171, R30). DEDUCED, unsafe: notes/assumptions/17. -/
def setNumeric (id chute : Byte) (allowed : State → Bool) (lo hi : Nat) (store : Nat → State → State) (value : Nat)
    (s : State) : State × Answer :=
  if allowed s then
    let stored := clampNat lo hi value
    (closeWindow (store stored s), ⟨clampedIf (stored != value), settingReport id chute stored⟩)
  else refuse .notNow s

/-- Reads the chute byte and the value of a SET; any other LENGTH is refused with MALFORMED (R186). -/
def withValue (f : Byte → Nat → State → State × Answer) (rest : List Byte) (s : State) : State × Answer :=
  match rest with
  | [c, v3, v2, v1, v0] => f c (num32 v3 v2 v1 v0) s
  | _ => refuse .malformed s

/-- SET AIR TRIM: 0 to 127. -/
def cmdSetAirTrim (rest : List Byte) (s : State) : State × Answer :=
  withValue (fun _ => setNumeric 1 0 notWindDown 0 127 fun v => updateSettings fun t => { t with airTrim := v }) rest s

/-- LINE PERIOD stored, and the pending-restart flag set, whether or not the value is new (R7, R171). -/
def storePeriod (v : Nat) (s : State) : State := { s with clk := { s.clk with period := v, pendingRestart := true } }

/-- SET LINE PERIOD: 50 to 2000 (R7). -/
def cmdSetLinePeriod (rest : List Byte) (s : State) : State × Answer :=
  withValue (fun _ => setNumeric 2 0 standbyAllEmpty 50 2000 storePeriod) rest s

/-- SET MAX AGE: 16 to 1024 (R37). -/
def cmdSetMaxAge (rest : List Byte) (s : State) : State × Answer :=
  withValue (fun _ => setNumeric 3 0 standbyNoSwap 16 1024 fun v => updateSettings fun t => { t with maxAge := v })
    rest s

/-- SET LEAD MIN: 100 to 2000. -/
def cmdSetLeadMin (rest : List Byte) (s : State) : State × Answer :=
  withValue (fun _ => setNumeric 4 0 inStandby 100 2000 fun v => updateSettings fun t => { t with leadMin := v }) rest s

/-- SET WIDTH MIN: 200 to min(2000, WIDTH MAX). -/
def cmdSetWidthMin (rest : List Byte) (s : State) : State × Answer :=
  withValue (fun _ => setNumeric 5 0 standbyAllEmpty 200 (min 2000 s.settings.widthMax) fun v =>
    updateSettings fun t => { t with widthMin := v }) rest s

/-- SET WIDTH MAX: WIDTH MIN to min(10,000, WIDTH CAP). -/
def cmdSetWidthMax (rest : List Byte) (s : State) : State × Answer :=
  withValue (fun _ => setNumeric 6 0 standbyAllEmpty s.settings.widthMin (min 10000 s.settings.widthCap) fun v =>
    updateSettings fun t => { t with widthMax := v }) rest s

/-- SET WIDTH CAP: max(2000, WIDTH MAX) to 30,000. -/
def cmdSetWidthCap (rest : List Byte) (s : State) : State × Answer :=
  withValue (fun _ => setNumeric 7 0 standbyAllEmpty (max 2000 s.settings.widthMax) 30000 fun v =>
    updateSettings fun t => { t with widthCap := v }) rest s

/-- SET VALVE GAP of a chute: 200 to 5000; a chute above 3 is refused first (R171). -/
def cmdSetValveGap (rest : List Byte) (s : State) : State × Answer :=
  withValue (fun c v s =>
    match chuteByte c with
    | none => refuse .outOfRange s
    | some h =>
      setNumeric 8 c (standbyChuteEmpty h) 200 5000
        (fun v => updateSettings fun t => { t with valveGap := t.valveGap.set h v }) v s) rest s

/-- SET REPLY WAIT: code 0 to 3. -/
def cmdSetReplyWait (rest : List Byte) (s : State) : State × Answer :=
  withValue (fun _ => setNumeric 9 0 inStandby 0 3 fun v => updateSettings fun t => { t with replyWait := v }) rest s

/-- SET MISS LIMIT: 1 to 15. -/
def cmdSetMissLimit (rest : List Byte) (s : State) : State × Answer :=
  withValue (fun _ => setNumeric 10 0 notWindDown 1 15 fun v => updateSettings fun t => { t with missLimit := v }) rest s

/-- SET WIND-DOWN LIMIT: 20 to 500. -/
def cmdSetWindDownLimit (rest : List Byte) (s : State) : State × Answer :=
  withValue (fun _ => setNumeric 11 0 notWindDown 20 500 fun v =>
    updateSettings fun t => { t with windDownLimit := v }) rest s

/-- Whether a value is a group address or 0, none (R165, R171). -/
def groupOk (v : Nat) : Bool := v == 0 || (33 ≤ v && v ≤ 62)

/-- SET GROUP ADDRESS: refused with OUT OF RANGE unless 0 or 33 to 62; taken in any state (R171). -/
def cmdSetGroupAddress (rest : List Byte) (s : State) : State × Answer :=
  withValue (fun _ v s =>
    if groupOk v then
      (closeWindow (updateSettings (fun t => { t with group := BitVec.ofNat 8 v }) s),
        ⟨.done, settingReport 12 0 v⟩)
    else refuse .outOfRange s) rest s

/-- The NOTICE MASK stored, and ATTN judged (R171, R176). -/
def storeMask (mask : BitVec 11) (s : State) : State :=
  { s with
    settings := { s.settings with noticeMask := mask }
    notices := s.notices.judge mask }

/-- SET NOTICE MASK: positions that name no kind are ignored, which is no clamp; taken in any state (R171). -/
def cmdSetNoticeMask (rest : List Byte) (s : State) : State × Answer :=
  withValue (fun _ v s =>
    let mask := BitVec.ofNat 11 v
    (closeWindow (storeMask mask s), ⟨.done, settingReport 13 0 mask.toNat⟩)) rest s

/-- SET with any payload: the setting id chooses the setting, and one that names none is refused (R171, R186). -/
def cmdSet (payload : List Byte) (s : State) : State × Answer :=
  match payload with
  | id :: rest =>
    if rest.length ≠ 5 then refuse .malformed s
    else if id = 1 then cmdSetAirTrim rest s
    else if id = 2 then cmdSetLinePeriod rest s
    else if id = 3 then cmdSetMaxAge rest s
    else if id = 4 then cmdSetLeadMin rest s
    else if id = 5 then cmdSetWidthMin rest s
    else if id = 6 then cmdSetWidthMax rest s
    else if id = 7 then cmdSetWidthCap rest s
    else if id = 8 then cmdSetValveGap rest s
    else if id = 9 then cmdSetReplyWait rest s
    else if id = 10 then cmdSetMissLimit rest s
    else if id = 11 then cmdSetWindDownLimit rest s
    else if id = 12 then cmdSetGroupAddress rest s
    else if id = 13 then cmdSetNoticeMask rest s
    else refuse .outOfRange s
  | [] => refuse .malformed s

/-! ### QUERY -/

/-- The stored value of a setting other than VALVE GAP; none where the id names none (R172). -/
def settingOf (s : State) (id : Byte) : Option Nat :=
  match id.toNat with
  | 1 => some s.settings.airTrim
  | 2 => some s.clk.period
  | 3 => some s.settings.maxAge
  | 4 => some s.settings.leadMin
  | 5 => some s.settings.widthMin
  | 6 => some s.settings.widthMax
  | 7 => some s.settings.widthCap
  | 9 => some s.settings.replyWait
  | 10 => some s.settings.missLimit
  | 11 => some s.settings.windDownLimit
  | 12 => some s.settings.group.toNat
  | 13 => some s.settings.noticeMask.toNat
  | _ => none

/-- The chute byte and the value that a QUERY of a setting reports: the chute is read for VALVE GAP, id 8, alone. -/
def queryValue (s : State) (id chute : Byte) : Option (Byte × Nat) :=
  if id = 8 then (chuteByte chute).map fun h => (chute, s.settings.valveGap.get h)
  else (settingOf s id).map fun v => (0, v)

/-- QUERY (R172); it closes the table window (R30). -/
def cmdQuery (payload : List Byte) (s : State) : State × Answer :=
  match payload with
  | [id, c] =>
    match queryValue s id c with
    | some (chute, v) => (closeWindow s, ⟨.done, settingReport id chute v⟩)
    | none => refuse .outOfRange s
  | _ => refuse .malformed s

end Sys2Proof.Machine
end

