-- ==== Sys2Proof/Machine/Purge.lean ====
section
/-! DEFINITION. The turns and the completion of a purge (9.4): PURGE_TURN and PURGE_COMPLETE. -/

namespace Sys2Proof.Machine

/-- Adds an entry to the purge set (R154). -/
def addToPurge (g ident : Nat) (s : State) : State :=
  { s with ctl := { s.ctl with
    purge := s.ctl.purge.map fun p =>
      if p.set.contains (g, ident) then p else { p with set := p.set ++ [(g, ident)] } } }

/-- One chute's offer of a turn: the nozzle in service is offered a PURGE firing, any other is skipped (R154). -/
def purgeOffer (width n : Nat) (h : Chute) (s : State) : State :=
  let g := globalId h n
  if s.inService g then
    let c := plus s.clk.now s.settings.leadMin
    match offer g c (plus c width) 0 .purge s with
    | (s', .created i) => addToPurge g i s'
    | (s', .merged i) => addToPurge g i s'
    | (s', _) => s'
  else s

/-- The purge record after a turn: the next turn is scheduled, or generation has ended (R154). -/
def Purge.advance (p : Purge) : Purge :=
  { p with nextTurn := p.nextTurn + 1, nextTime := plus p.nextTime p.spacing, ended := p.nextTurn + 1 == p.turns }

/-- Makes the turn of a purge record: nozzle k mod 40 of every chute (R154). -/
def makeTurn (p : Purge) (s : State) : State :=
  let n := p.nextTurn % Config.nozzlesPerChute
  let s := purgeOffer p.width n 3 (purgeOffer p.width n 2 (purgeOffer p.width n 1 (purgeOffer p.width n 0 s)))
  conclude { s with ctl := { s.ctl with purge := s.ctl.purge.map Purge.advance } }

/-- A purge turn, when its time has come and generation has not ended (R154). -/
def purgeTurn (s : State) : State :=
  match s.ctl.purge with
  | some p => if !p.ended && due p.nextTime s.clk.now then makeTurn p s else s
  | none => s

/-- PURGE_TURN (R154). -/
def execPurgeTurn (s : State) : Host.Outcome State Fault Refusal := live purgeTurn s

/-- PURGE_COMPLETE: the purge completes once generation has ended and the purge set is empty (R155). -/
def execPurgeComplete (s : State) : Host.Outcome State Fault Refusal := live concludePurge s

end Sys2Proof.Machine
end

