-- ==== Sys2Proof/Machine/StateCommands.lean ====
section
/-! DEFINITION. GO RUN, GO STANDBY, PURGE, RESTART, CLEAR COLD and DRY (chapter 9): what each does once its frame is
acted on. -/

namespace Sys2Proof.Machine

/-- GO RUN and its checks in their order (R150). A warm reset that is owed comes first, here and at the other commands of
the state controller (R162). -/
def cmdGoRun (payload : List Byte) (s : State) : State × Answer :=
  match payload with
  | [] =>
    let s := takeOwedReset s
    if s.ctl.op ≠ .standby then refuse .notNow s
    else if s.ctl.estop then refuse .notNow s
    else if s.clk.pendingRestart then refuse .notNow s
    else if s.ctl.cold then refuse .cold s
    else if !(s.banks.data s.banks.working).loaded.all then refuse .notLoaded s
    else takeDone (enterState .run (closeWindow s))
  | _ => refuse .malformed s

/-- GO STANDBY from RUN gives up the sorting work (R151). -/
def standbyFromRun (s : State) : State :=
  enterState .standby (abandonOrigin .sighting (emptyRings (emptyHeld (emptyIntake (abandonPlanning s)))))

/-- GO STANDBY from PURGE discards the purge and its WAITING entries (R152). -/
def standbyFromPurge (s : State) : State :=
  enterState .standby (abandonOrigin .purge { s with ctl := { s.ctl with purge := none } })

/-- GO STANDBY by operating state (R151, R152). -/
def cmdGoStandby (payload : List Byte) (s : State) : State × Answer :=
  match payload with
  | [] =>
    let s := takeOwedReset s
    match s.ctl.op with
    | .standby => takeDone (closeWindow s)
    | .run => takeDone (standbyFromRun (closeWindow s))
    | .purge => takeDone (standbyFromPurge (closeWindow s))
    | .halt => if s.ctl.estop then refuse .notNow s else takeDone (enterState .standby (closeWindow s))
    | .windDown => refuse .notNow s
  | _ => refuse .malformed s

/-- A PURGE that passes its checks: the record is created, the state becomes PURGE, turn 0 is made (R153). -/
def startPurge (rounds width spacing : Nat) (s : State) : State :=
  let p : Purge := ⟨width, spacing, Config.nozzlesPerChute * rounds, 0, s.clk.now, false, []⟩
  makeTurn p (enterState .purge (closeWindow { s with ctl := { s.ctl with purge := some p } }))

/-- PURGE (R153). -/
def cmdPurge (payload : List Byte) (s : State) : State × Answer :=
  match payload with
  | [r, w1, w0, sp1, sp0] =>
    let s := takeOwedReset s
    if s.ctl.op ≠ .standby then refuse .notNow s
    else if s.ctl.estop then refuse .notNow s
    else
      let rounds := clampNat 1 16 r.toNat
      let width := clampNat s.settings.widthMin s.settings.widthCap (num16 w1 w0)
      let spacing := clampNat 1000 50000 (num16 sp1 sp0)
      let replaced := !(rounds == r.toNat && width == num16 w1 w0 && spacing == num16 sp1 sp0)
      (startPurge rounds width spacing s,
        ⟨clampedIf replaced, BitVec.ofNat 8 rounds :: (bytes16 width ++ bytes16 spacing)⟩)
  | _ => refuse .malformed s

/-- A RESTART that is taken: the wind-down record is created, a purge is discarded (R158). -/
def startWindDown (s : State) : State :=
  enterState .windDown (closeWindow { s with ctl := { s.ctl with
    purge := none
    windDown := some ⟨.draining, plus s.clk.now (s.settings.windDownLimit * 1000)⟩ } })

/-- RESTART (R158): a wind-down with nothing to finish ends in the same event (R159). -/
def cmdRestart (payload : List Byte) (s : State) : State × Answer :=
  match payload with
  | [] =>
    let s := takeOwedReset s
    if s.ctl.op = .windDown then refuse .notNow s else takeDone (endWindDown (startWindDown s))
  | _ => refuse .malformed s

/-- CLEAR COLD (R149). -/
def cmdClearCold (payload : List Byte) (s : State) : State × Answer :=
  match payload with
  | [] =>
    let s := takeOwedReset s
    takeDone (closeWindow { s with ctl := { s.ctl with cold := false } })
  | _ => refuse .malformed s

/-- DRY ON: the part goes dry, at once if no WET firing record exists (R106). -/
def dryOn (s : State) : State :=
  if s.ctl.goingDry || s.ctl.dry then s else concludeDry { s with ctl := { s.ctl with goingDry := true } }

/-- DRY OFF: the going-dry condition and the DRY flag are cleared (R107). -/
def dryOff (s : State) : State := { s with ctl := { s.ctl with goingDry := false, dry := false } }

/-- Whether DRY is available (R163). -/
def dryAvailable (s : State) : Bool := s.ctl.op == .standby || s.ctl.op == .run || s.ctl.op == .purge

/-- DRY with value ON, given the payload after its value byte (R163). -/
def cmdDryOn (rest : List Byte) (s : State) : State × Answer :=
  match rest with
  | [] =>
    let s := takeOwedReset s
    if dryAvailable s then takeDone (dryOn (closeWindow s)) else refuse .notNow s
  | _ => refuse .malformed s

/-- DRY with value OFF, given the payload after its value byte (R163). -/
def cmdDryOff (rest : List Byte) (s : State) : State × Answer :=
  match rest with
  | [] =>
    let s := takeOwedReset s
    if dryAvailable s then takeDone (dryOff (closeWindow s)) else refuse .notNow s
  | _ => refuse .malformed s

/-- DRY with any payload (R186: a value that is neither ON nor OFF is refused with OUT OF RANGE). -/
def cmdDry (payload : List Byte) (s : State) : State × Answer :=
  match payload with
  | v :: rest =>
    if rest ≠ [] then refuse .malformed s
    else if v = 1 then cmdDryOn rest s
    else if v = 0 then cmdDryOff rest s
    else refuse .outOfRange s
  | [] => refuse .malformed s

end Sys2Proof.Machine
end

