-- ==== Sys2Proof/Machine/TallyCommands.lean ====
section
/-! DEFINITION. TALLY (chapter 11): what it does once its frame is acted on. -/

namespace Sys2Proof.Machine

/-- What a TALLY's chute and selector name (R182). -/
inductive TallyName where
  | sighting (chute : Chute) (cls : Nat)
  | chute (chute : Chute)
  | link
  deriving DecidableEq, Repr

/-- The record named by a chute byte and a selector byte: 0 to 15 a class, 16 CHUTE, 17 LINK; none where they name no
record, the chute being judged for a class and for CHUTE only (R182). -/
def tallyName (chute selector : Byte) : Option TallyName :=
  if selector.toNat ≤ 15 then (chuteByte chute).map fun h => .sighting h selector.toNat
  else if selector.toNat = 16 then (chuteByte chute).map .chute
  else if selector.toNat = 17 then some .link
  else none

/-- The counters of a sighting record in the order of 12.4. -/
def SightingTally.list (t : SightingTally) : List Nat :=
  [t.seen, t.planned, t.merged, t.passed, t.blind, t.untimely, t.crowded, t.dismissed, t.abandoned, t.defaulted,
    t.clipped]

/-- The counters of a chute record in the order of 12.4. -/
def ChuteTally.list (t : ChuteTally) : List Nat :=
  [t.refused, t.overflow, t.duplicateTags, t.verdictsLate, t.verdictsUnknown, t.opened, t.unconfirmed, t.dryFirings,
    t.starved, t.cut, t.retries, t.laneFlips, t.firingsAbandoned]

/-- Whether a sighting is of a chute and class. -/
def Sighting.isOf (h : Chute) (k : Nat) (g : Sighting) : Bool := g.chute == h && g.cls == k

/-- Whether a held entry is of a chute and class. -/
def HeldEntry.isOf (h : Chute) (k : Nat) (e : HeldEntry) : Bool := e.chute == h && e.cls == k

/-- The sighting in flight at the planner, if any. -/
def inFlightSighting (s : State) : List Sighting := (s.planner.map (·.sighting)).toList

/-- The pending count of a chute and class: its sightings in the intake, in flight, and held (R182). -/
def pendingCount (s : State) (h : Chute) (k : Nat) : Nat :=
  s.port.intake.countP (Sighting.isOf h k) + (inFlightSighting s).countP (Sighting.isOf h k)
    + s.verdicts.held.countP (HeldEntry.isOf h k)

/-- The bytes of a TALLY's record after its three leading bytes (12.4, "The TALLY record"). -/
def tallyBytes (s : State) : TallyName → List Byte
  | .sighting h k =>
    (s.tally.sighting h k).list.flatMap bytes32 ++ [BitVec.ofNat 8 (pendingCount s h k)]
  | .chute h => (s.tally.chutes.get h).list.flatMap bytes32
  | .link => [s.tally.link.linkErrors, s.tally.link.controlErrors].flatMap bytes32

/-- The clear of a record: every counter 0, but SEEN of a sighting record becomes its pending count (R182). -/
def clearTally (n : TallyName) (s : State) : State :=
  match n with
  | .sighting h k =>
    { s with tally := s.tally.setSighting h k { SightingTally.zero with seen := pendingCount s h k } }
  | .chute h => { s with tally := { s.tally with chutes := s.tally.chutes.set h .zero } }
  | .link => { s with tally := { s.tally with link := ⟨0, 0⟩ } }

/-- TALLY and its checks in their order (R182, R186); it closes the table window (R30). -/
def cmdTally (payload : List Byte) (s : State) : State × Answer :=
  match payload with
  | [c, sel, clear] =>
    if 1 < clear.toNat then refuse .outOfRange s
    else
      match tallyName c sel with
      | none => refuse .outOfRange s
      | some n =>
        (closeWindow (if clear = 1 then clearTally n s else s),
          ⟨.done, [c, sel, clear] ++ tallyBytes s n⟩)
  | _ => refuse .malformed s

end Sys2Proof.Machine
end

