-- ==== Sys2Proof/Machine/Frames.lean ====
section
/-! DEFINITION. The receiver of the control link (10.1): its bytes, its frames, and the judging of a complete frame;
CONTROL_ERROR, FRAME_IDLE_TIMEOUT and CONTROL_RESYNC_TIMEOUT. -/

namespace Sys2Proof.Machine

/-- A complete frame with a good CHECK is judged: a reply is ignored, any other is sorted by its ADDRESS and its KIND
(R167, R168, R169; the codes of 12.4). POLL, NOTICES, GET, NOZZLE READ, QUERY and TALLY exist for their replies alone. -/
def judgeFrame (addr kind : Byte) (payload : List Byte) (s : State) : State :=
  if kind.msb then s
  else
    match kind.toNat with
    | 0x01 => answer addr kind true (cmdPoll payload) s
    | 0x02 => answer addr kind true (cmdNotices payload) s
    | 0x03 => answer addr kind false (cmdRearm payload) s
    | 0x04 => answer addr kind false (cmdGoRun payload) s
    | 0x05 => answer addr kind false (cmdGoStandby payload) s
    | 0x06 => answer addr kind false (cmdPurge payload) s
    | 0x07 => answer addr kind false (cmdRestart payload) s
    | 0x08 => answer addr kind false (cmdClearCold payload) s
    | 0x09 => answer addr kind false (cmdDry payload) s
    | 0x0A => answer addr kind false (cmdWindow payload) s
    | 0x0B => answer addr kind false (cmdPut payload) s
    | 0x0C => answer addr kind true (cmdGet payload) s
    | 0x0D => answer addr kind false (cmdSwap payload) s
    | 0x0E => answer addr kind true (cmdNozzleRead payload) s
    | 0x0F => answer addr kind false (cmdNozzleWrite payload) s
    | 0x10 => answer addr kind false (cmdTest payload) s
    | 0x11 => answer addr kind false (cmdLane payload) s
    | 0x12 => answer addr kind false (cmdSet payload) s
    | 0x13 => answer addr kind true (cmdQuery payload) s
    | 0x14 => answer addr kind true (cmdTally payload) s
    | _ => answer addr kind false (refuse .unknown) s

/-- The control link's receiver set. -/
def setFrameRx (r : FrameRx) (s : State) : State := { s with link := { s.link with rx := r } }

/-- A frame discarded: counted, the receiver in the state named (R166, R167). -/
def controlError (r : FrameRx) (s : State) : State := countControlError (setFrameRx r s)

/-- A frame whose last byte has arrived (R166, R167): its CHECK decides between HUNTING, with the frame judged, and
RESYNCING, with a control error. -/
def completeFrame (frame : List Byte) (s : State) : State :=
  match frame with
  | _ :: addr :: kind :: len :: rest =>
    let payload := rest.take len.toNat
    if rest.drop len.toNat = bytes16 (crc16 (addr :: kind :: len :: payload)).toNat then
      judgeFrame addr kind payload (setFrameRx .hunting s)
    else controlError .resyncing s
  | _ => s

/-- Whether the bytes gathered of a frame end with a LENGTH greater than 200 (R166). -/
def lengthTooGreat (frame : List Byte) : Bool :=
  match frame with
  | [_, _, _, len] => Config.maxPayload < len.toNat
  | _ => false

/-- Whether all 6 + LENGTH bytes of a frame are gathered (R166). -/
def frameWhole (frame : List Byte) : Bool :=
  match frame with
  | _ :: _ :: _ :: len :: rest => rest.length == len.toNat + 2
  | _ => false

/-- One byte arrives on the control link (R166). -/
def frameByte (s : State) (b : Byte) : State :=
  match s.link.tx, s.link.rx with
  | .idle, .hunting => if b = startByte then setFrameRx (.collecting [b]) s else s
  | .idle, .collecting bytes =>
    let gathered := bytes ++ [b]
    if lengthTooGreat gathered then controlError .resyncing s
    else if frameWhole gathered then completeFrame gathered s
    else setFrameRx (.collecting gathered) s
  | _, _ => s

/-- Bytes arrive on the control link without an idle gap between them (R166).
DESIGN CHOICE, safe: notes/assumptions/12. -/
def frameBytesIn (bytes : List Byte) (s : State) : State := bytes.foldl frameByte s

/-- The control link has been idle for more than 100 µs: a partial frame is discarded as a control error, and the
receiver is HUNTING (R166, R167). -/
def frameGap (s : State) : State :=
  match s.link.rx with
  | .collecting _ => controlError .hunting s
  | .resyncing => setFrameRx .hunting s
  | .hunting => s

/-- A whole frame with a good CHECK arrives. A HUNTING receiver of an idle transmitter takes it up and judges it; in any
other state of the two, its bytes go where R166 sends them. -/
def receiveFrame (addr kind : Byte) (payload : List Byte) (judge : State → State) (s : State) : State :=
  if s.link.tx = .idle ∧ s.link.rx = .hunting ∧ payload.length ≤ Config.maxPayload then judge s
  else frameBytesIn (frameBytes addr kind payload) s

/-- CONTROL_ERROR: the bytes of a frame with a bad CHECK or a LENGTH above 200 (R166, R167). -/
def execControlError (bytes : List Byte) (s : State) : Host.Outcome State Fault Refusal := live (frameBytesIn bytes) s

/-- FRAME_IDLE_TIMEOUT: some bytes of a frame, then the gap (R166, R167). -/
def execFrameIdleTimeout (bytes : List Byte) (s : State) : Host.Outcome State Fault Refusal :=
  live (fun s => frameGap (frameBytesIn bytes s)) s

/-- CONTROL_RESYNC_TIMEOUT (R166). -/
def execControlResyncTimeout (s : State) : Host.Outcome State Fault Refusal :=
  live (fun s => if s.link.rx = .resyncing then setFrameRx .hunting s else s) s

end Sys2Proof.Machine
end

