-- ==== Sys2Proof/Machine/HeldList.lean ====
section
/-! DEFINITION. The held list, verdicts and the expired-tag rings (chapter 5): DEADLINE_EXPIRY, and what a hand-off and a
verdict do. -/

namespace Sys2Proof.Machine

/-- The earliest command time of a plan (R80). -/
def earliestCommand : List PlanFiring → Time
  | [] => 0
  | f :: fs => fs.foldl (fun t x => earlier t x.command) f.command

/-- The deadline of a plan: its earliest command time less LEAD MIN (R80). -/
def deadlineOf (leadMin : Nat) (plan : List PlanFiring) : Time := minus (earliestCommand plan) leadMin

/-- Inserts a held entry in order of deadline, after those of equal deadline (R80). -/
def insertHeld (e : HeldEntry) : List HeldEntry → List HeldEntry
  | [] => [e]
  | x :: l => if before e.deadline x.deadline then e :: x :: l else x :: insertHeld e l

/-- Whether a held entry carries a chute and a tag. -/
def HeldEntry.named (h : Chute) (tag : Byte) (e : HeldEntry) : Bool := e.chute == h && e.tag == tag

/-- The held entry of a chute and tag. -/
def findHeld (h : Chute) (tag : Byte) (s : State) : Option HeldEntry := s.verdicts.held.find? (HeldEntry.named h tag)

/-- Takes the entry of a chute and tag out of the held list. -/
def removeHeld (h : Chute) (tag : Byte) (s : State) : State :=
  { s with verdicts := { s.verdicts with held := s.verdicts.held.eraseP (HeldEntry.named h tag) } }

/-- A ring after a push: the oldest tag is dropped first if it holds eight (R87). -/
def pushRing (tag : Byte) (ring : List Byte) : List Byte :=
  (if Config.ringSize ≤ ring.length then ring.drop 1 else ring) ++ [tag]

/-- Pushes a tag into its chute's expired-tag ring (R87). -/
def pushTag (h : Chute) (tag : Byte) (s : State) : State :=
  { s with verdicts := { s.verdicts with rings := s.verdicts.rings.modify h (pushRing tag) } }

/-- A ring without the newest occurrence of a tag (R88). -/
def dropNewest (tag : Byte) (ring : List Byte) : List Byte := (ring.reverse.erase tag).reverse

/-- Applies a class's default policy: under FIRE the plan is placed and its outcome counted, under PASS the sighting is
DISMISSED (R82, R86). -/
def applyPolicy (e : HeldEntry) (s : State) : State :=
  match e.policy with
  | .fire => placeAndCount e.chute e.cls e.prio e.plan s
  | .pass => countSighting e.chute e.cls .dismissed s

/-- Resolves a sighting at once by its default policy (R82). -/
def resolveAtOnce (e : HeldEntry) (s : State) : State :=
  applyPolicy e (countSighting e.chute e.cls .defaulted s)

/-- Settles a sighting whose deadline has come: DEFAULTED is counted, its tag is pushed, its policy applied (R86). -/
def expireSighting (e : HeldEntry) (s : State) : State :=
  applyPolicy e (pushTag e.chute e.tag (countSighting e.chute e.cls .defaulted s))

/-- The held list takes a hand-off (R81). -/
def handOff (e : HeldEntry) (s : State) : State :=
  if !before s.clk.now e.deadline then expireSighting e s
  else if (findHeld e.chute e.tag s).isSome then resolveAtOnce e (countChute e.chute .duplicateTags s)
  else if Config.heldSize ≤ s.verdicts.held.length then resolveAtOnce e (setNotice .heldFull (some e.chute) s)
  else { s with verdicts := { s.verdicts with held := insertHeld e s.verdicts.held } }

/-- A verdict that finds no held entry: LATE if the ring holds its tag, UNKNOWN otherwise (R88). -/
def verdictWithoutEntry (h : Chute) (tag : Byte) (s : State) : State :=
  if (s.verdicts.rings.get h).contains tag then
    countChute h .verdictsLate
      { s with verdicts := { s.verdicts with rings := s.verdicts.rings.modify h (dropNewest tag) } }
  else countChute h .verdictsUnknown s

/-- The held list takes a verdict (R83 to R85, R88); a wind-down whose last work it settles ends (R159). -/
def takeVerdict (h : Chute) (tag : Byte) (confirm : Bool) (s : State) : State :=
  if s.ctl.op = .run ∨ s.ctl.op = .windDown then
    match findHeld h tag s with
    | some e =>
      let s' := removeHeld h tag s
      endWindDown
        (if confirm then placeAndCount e.chute e.cls e.prio e.plan s' else countSighting e.chute e.cls .dismissed s')
    | none => verdictWithoutEntry h tag s
  else countChute h .verdictsUnknown s

/-- The expiry of the held entry of a chute and tag, when its deadline has come (R86); a wind-down whose last work it
settles ends (R159). -/
def deadlineExpiry (h : Chute) (tag : Byte) (s : State) : State :=
  match findHeld h tag s with
  | some e => if due e.deadline s.clk.now then endWindDown (expireSighting e (removeHeld h tag s)) else s
  | none => s

/-- DEADLINE_EXPIRY (R86). -/
def execDeadlineExpiry (h : Chute) (tag : Byte) (s : State) : Host.Outcome State Fault Refusal :=
  live (deadlineExpiry h tag) s

end Sys2Proof.Machine
end

