-- ==== Sys2Proof/Machine/HostCommands.lean ====
section
/-! DEFINITION. The rows of the host's commands: UNKNOWN_COMMAND, and each command's frame arriving on the control link,
with its KIND and, for the rows of DRY, SWAP and SET, its first payload byte (12.4). -/

namespace Sys2Proof.Machine

/-- A command's frame arrives: its KIND, its whole payload, whether it exists for its reply alone, and what it does.
DESIGN CHOICE, safe: notes/assumptions/11. -/
def hostCommand (addr kind : Byte) (payload : List Byte) (replyOnly : Bool) (cmd : State → State × Answer) (s : State) :
    Host.Outcome State Fault Refusal :=
  live (receiveFrame addr kind payload (answer addr kind replyOnly cmd)) s

/-- UNKNOWN_COMMAND: a frame whose KIND is no command of the part is refused with UNKNOWN (R169). A frame of any other
KIND is judged by it. -/
def execUnknownCommand (addr kind : Byte) (payload : List Byte) (s : State) : Host.Outcome State Fault Refusal :=
  live (receiveFrame addr kind payload (judgeFrame addr kind payload)) s

/-- POLL (R173, R177). -/
def execPoll (addr : Byte) (payload : List Byte) (s : State) : Host.Outcome State Fault Refusal :=
  hostCommand addr 0x01 payload true (cmdPoll payload) s

/-- NOTICES (R175). -/
def execNotices (addr : Byte) (payload : List Byte) (s : State) : Host.Outcome State Fault Refusal :=
  hostCommand addr 0x02 payload true (cmdNotices payload) s

/-- REARM (R178). -/
def execRearm (addr : Byte) (payload : List Byte) (s : State) : Host.Outcome State Fault Refusal :=
  hostCommand addr 0x03 payload false (cmdRearm payload) s

/-- GO RUN (R150). -/
def execGoRun (addr : Byte) (payload : List Byte) (s : State) : Host.Outcome State Fault Refusal :=
  hostCommand addr 0x04 payload false (cmdGoRun payload) s

/-- GO STANDBY (R151, R152). -/
def execGoStandby (addr : Byte) (payload : List Byte) (s : State) : Host.Outcome State Fault Refusal :=
  hostCommand addr 0x05 payload false (cmdGoStandby payload) s

/-- PURGE (R153). -/
def execPurge (addr : Byte) (payload : List Byte) (s : State) : Host.Outcome State Fault Refusal :=
  hostCommand addr 0x06 payload false (cmdPurge payload) s

/-- RESTART (R158). -/
def execRestart (addr : Byte) (payload : List Byte) (s : State) : Host.Outcome State Fault Refusal :=
  hostCommand addr 0x07 payload false (cmdRestart payload) s

/-- CLEAR COLD (R149). -/
def execClearCold (addr : Byte) (payload : List Byte) (s : State) : Host.Outcome State Fault Refusal :=
  hostCommand addr 0x08 payload false (cmdClearCold payload) s

/-- DRY with value ON (R106, R163). -/
def execDryOn (addr : Byte) (rest : List Byte) (s : State) : Host.Outcome State Fault Refusal :=
  hostCommand addr 0x09 (1 :: rest) false (cmdDryOn rest) s

/-- DRY with value OFF (R107, R163). -/
def execDryOff (addr : Byte) (rest : List Byte) (s : State) : Host.Outcome State Fault Refusal :=
  hostCommand addr 0x09 (0 :: rest) false (cmdDryOff rest) s

/-- WINDOW (R27). -/
def execWindow (addr : Byte) (payload : List Byte) (s : State) : Host.Outcome State Fault Refusal :=
  hostCommand addr 0x0A payload false (cmdWindow payload) s

/-- PUT (R28). -/
def execPut (addr : Byte) (payload : List Byte) (s : State) : Host.Outcome State Fault Refusal :=
  hostCommand addr 0x0B payload false (cmdPut payload) s

/-- GET (R29). -/
def execGet (addr : Byte) (payload : List Byte) (s : State) : Host.Outcome State Fault Refusal :=
  hostCommand addr 0x0C payload true (cmdGet payload) s

/-- SWAP at a line (R31). -/
def execSwapAtLine (addr : Byte) (rest : List Byte) (s : State) : Host.Outcome State Fault Refusal :=
  hostCommand addr 0x0D (0 :: rest) false (cmdSwapAtLine rest) s

/-- SWAP at the next line (R31). -/
def execSwapAtNextLine (addr : Byte) (rest : List Byte) (s : State) : Host.Outcome State Fault Refusal :=
  hostCommand addr 0x0D (1 :: rest) false (cmdSwapAtNextLine rest) s

/-- SWAP CANCEL (R31). -/
def execSwapCancel (addr : Byte) (rest : List Byte) (s : State) : Host.Outcome State Fault Refusal :=
  hostCommand addr 0x0D (2 :: rest) false (cmdSwapCancel rest) s

/-- NOZZLE READ (R135). -/
def execNozzleRead (addr : Byte) (payload : List Byte) (s : State) : Host.Outcome State Fault Refusal :=
  hostCommand addr 0x0E payload true (cmdNozzleRead payload) s

/-- NOZZLE WRITE (R137 to R140). -/
def execNozzleWrite (addr : Byte) (payload : List Byte) (s : State) : Host.Outcome State Fault Refusal :=
  hostCommand addr 0x0F payload false (cmdNozzleWrite payload) s

/-- TEST (R143, R144). -/
def execTest (addr : Byte) (payload : List Byte) (s : State) : Host.Outcome State Fault Refusal :=
  hostCommand addr 0x10 payload false (cmdTest payload) s

/-- LANE (R125). -/
def execLane (addr : Byte) (payload : List Byte) (s : State) : Host.Outcome State Fault Refusal :=
  hostCommand addr 0x11 payload false (cmdLane payload) s

/-- SET AIR TRIM (R171). -/
def execSetAirTrim (addr : Byte) (rest : List Byte) (s : State) : Host.Outcome State Fault Refusal :=
  hostCommand addr 0x12 (1 :: rest) false (cmdSetAirTrim rest) s

/-- SET LINE PERIOD (R171). -/
def execSetLinePeriod (addr : Byte) (rest : List Byte) (s : State) : Host.Outcome State Fault Refusal :=
  hostCommand addr 0x12 (2 :: rest) false (cmdSetLinePeriod rest) s

/-- SET MAX AGE (R171). -/
def execSetMaxAge (addr : Byte) (rest : List Byte) (s : State) : Host.Outcome State Fault Refusal :=
  hostCommand addr 0x12 (3 :: rest) false (cmdSetMaxAge rest) s

/-- SET LEAD MIN (R171). -/
def execSetLeadMin (addr : Byte) (rest : List Byte) (s : State) : Host.Outcome State Fault Refusal :=
  hostCommand addr 0x12 (4 :: rest) false (cmdSetLeadMin rest) s

/-- SET WIDTH MIN (R171). -/
def execSetWidthMin (addr : Byte) (rest : List Byte) (s : State) : Host.Outcome State Fault Refusal :=
  hostCommand addr 0x12 (5 :: rest) false (cmdSetWidthMin rest) s

/-- SET WIDTH MAX (R171). -/
def execSetWidthMax (addr : Byte) (rest : List Byte) (s : State) : Host.Outcome State Fault Refusal :=
  hostCommand addr 0x12 (6 :: rest) false (cmdSetWidthMax rest) s

/-- SET WIDTH CAP (R171). -/
def execSetWidthCap (addr : Byte) (rest : List Byte) (s : State) : Host.Outcome State Fault Refusal :=
  hostCommand addr 0x12 (7 :: rest) false (cmdSetWidthCap rest) s

/-- SET VALVE GAP (R171). -/
def execSetValveGap (addr : Byte) (rest : List Byte) (s : State) : Host.Outcome State Fault Refusal :=
  hostCommand addr 0x12 (8 :: rest) false (cmdSetValveGap rest) s

/-- SET REPLY WAIT (R171). -/
def execSetReplyWait (addr : Byte) (rest : List Byte) (s : State) : Host.Outcome State Fault Refusal :=
  hostCommand addr 0x12 (9 :: rest) false (cmdSetReplyWait rest) s

/-- SET MISS LIMIT (R171). -/
def execSetMissLimit (addr : Byte) (rest : List Byte) (s : State) : Host.Outcome State Fault Refusal :=
  hostCommand addr 0x12 (10 :: rest) false (cmdSetMissLimit rest) s

/-- SET WIND-DOWN LIMIT (R171). -/
def execSetWindDownLimit (addr : Byte) (rest : List Byte) (s : State) : Host.Outcome State Fault Refusal :=
  hostCommand addr 0x12 (11 :: rest) false (cmdSetWindDownLimit rest) s

/-- SET GROUP ADDRESS (R171). -/
def execSetGroupAddress (addr : Byte) (rest : List Byte) (s : State) : Host.Outcome State Fault Refusal :=
  hostCommand addr 0x12 (12 :: rest) false (cmdSetGroupAddress rest) s

/-- SET NOTICE MASK (R171). -/
def execSetNoticeMask (addr : Byte) (rest : List Byte) (s : State) : Host.Outcome State Fault Refusal :=
  hostCommand addr 0x12 (13 :: rest) false (cmdSetNoticeMask rest) s

/-- QUERY (R172). -/
def execQuery (addr : Byte) (payload : List Byte) (s : State) : Host.Outcome State Fault Refusal :=
  hostCommand addr 0x13 payload true (cmdQuery payload) s

/-- TALLY (R182). -/
def execTally (addr : Byte) (payload : List Byte) (s : State) : Host.Outcome State Fault Refusal :=
  hostCommand addr 0x14 payload true (cmdTally payload) s

end Sys2Proof.Machine
end

