-- ==== Sys2Proof/Machine/Inputs.lean ====
section
/-! DEFINITION. The level inputs ESTOP and AIRLOW (9.5, R96): ESTOP_ASSERTION, ESTOP_RELEASE, AIRLOW_ASSERTION and
AIRLOW_RELEASE. -/

namespace Sys2Proof.Machine

/-- The emergency stop (R156): CLOSE ALL is requested on every chute, every queue, the planner, the intake, the held list
and the rings are emptied, a purge record is discarded, the state becomes HALT, notice ESTOP is set. A going-dry
condition ends with the firing records (R110). In WIND-DOWN the wind-down record is discarded and a warm reset follows
(R162). The CLOSE ALL is granted in the same event where no transaction is in flight (R114).
DEDUCED, unsafe: notes/assumptions/26. -/
def emergencyStop (s : State) : State :=
  let s := emptyRings (emptyHeld (emptyIntake (abandonPlanning (grantAll (emptyQueues (requestCloseAll s))))))
  let s := { s with ctl := { s.ctl with
    purge := none
    windDown := none
    resetDue := s.ctl.resetDue || s.ctl.op == .windDown } }
  setNotice .estop none (enterState .halt (concludeDry s))

/-- ESTOP changes from released to asserted (R156); the level changes in the same event. A warm reset that is owed comes
first (R162). DEDUCED, safe: notes/assumptions/23. -/
def estopAssertion (s : State) : State :=
  if s.ctl.estop then s
  else
    let s := takeOwedReset s
    emergencyStop { s with ctl := { s.ctl with estop := true } }

/-- ESTOP_ASSERTION (R156, R162). -/
def execEstopAssertion (s : State) : Host.Outcome State Fault Refusal := live estopAssertion s

/-- ESTOP_RELEASE: the level that commands judge and POLL reports changes (R156). -/
def execEstopRelease (s : State) : Host.Outcome State Fault Refusal :=
  live (fun s => { s with ctl := { s.ctl with estop := false } }) s

/-- AIRLOW changes from released to asserted: notice AIR LOW is set (R96). DEDUCED, safe: notes/assumptions/23. -/
def airlowAssertion (s : State) : State :=
  if s.ctl.airlow then s else setNotice .airLow none { s with ctl := { s.ctl with airlow := true } }

/-- AIRLOW_ASSERTION (R96). -/
def execAirlowAssertion (s : State) : Host.Outcome State Fault Refusal := live airlowAssertion s

/-- AIRLOW_RELEASE: no notice is set (R96). -/
def execAirlowRelease (s : State) : Host.Outcome State Fault Refusal :=
  live (fun s => { s with ctl := { s.ctl with airlow := false } }) s

end Sys2Proof.Machine
end

