-- ==== Sys2Proof/Machine/LineClock.lean ====
section
/-! DEFINITION. The line clock (1.2) and what the table banks do at each LSYNC pulse (2.5): LSYNC_PULSE and
LSYNC_PULSE_END. -/

namespace Sys2Proof.Machine

/-- The length of the pulse that begins a line: 20 µs for line 0, 4 µs for every other (R4). -/
def pulseLengthOf (n : Line) : Nat := if n = 0 then Config.markLength else Config.pulseLength

/-- The number of the line that the next pulse begins (R3, R7). -/
def nextLine (c : LineClock) : Line := if c.pendingRestart then 0 else c.line + 1

/-- The level of LSYNC (R4, R6). -/
def LineClock.lsyncHigh (c : LineClock) : Bool :=
  match c.lsync with
  | .low => false
  | .high _ => true
  | .cut rise _ => due rise c.now

/-- The line clock when its pulse comes (R3, R4, R7). -/
def LineClock.pulse (c : LineClock) : LineClock :=
  let n := nextLine c
  { c with
    line := n
    lineStart := c.now
    nextPulse := plus c.now c.period
    pendingRestart := false
    lsync := .high (plus c.now (pulseLengthOf n)) }

/-- Whether the planner has fixed the bank that is STAGING (R33, R42). DEDUCED, unsafe: notes/assumptions/15. -/
def planningOnStaging (s : State) : Bool :=
  match s.planner with
  | some r => r.bank == some s.banks.staging
  | none => false

/-- The pulse that restarts the line count: any pending swap is removed and any settle ended (R34). -/
def restartBanks (s : State) : State :=
  { s with banks := { s.banks with pendingSwap := none, lastSwap := none, settleHeld := false } }

/-- Executes a swap at its line: the roles exchange, the settle begins, BANK SWAPPED is set, an open window is closed
(R32). -/
def executeSwap (n : Line) (s : State) : State :=
  setNotice .bankSwapped none (closeWindow
    { s with banks := { s.banks with
        working := otherBank s.banks.working, pendingSwap := none, lastSwap := some n, settleHeld := false } })

/-- Ends the settle when the age of the last swap line exceeds MAX AGE, or has the planner hold it open (R33).
DEDUCED, unsafe: notes/assumptions/15. -/
def judgeSettle (n : Line) (s : State) : State :=
  match s.banks.lastSwap with
  | none => s
  | some ls =>
    if s.settings.maxAge < ageOf n ls then
      if planningOnStaging s then { s with banks := { s.banks with settleHeld := true } }
      else { s with banks := { s.banks with lastSwap := none, settleHeld := false } }
    else s

/-- What the table banks do with the new line number (R5, R32, R33). -/
def bankLine (n : Line) (s : State) : State :=
  judgeSettle n (if s.banks.pendingSwap = some n then executeSwap n s else s)

/-- The pulse's effect when it is due (R3, R7). -/
def lsyncPulse (s : State) : State :=
  let s' := { s with clk := s.clk.pulse }
  if s.clk.pendingRestart then restartBanks s' else bankLine (nextLine s.clk) s'

/-- LSYNC_PULSE: taken when the scheduled time has come (R2, R3). -/
def execLsyncPulse (s : State) : Host.Outcome State Fault Refusal :=
  live (fun s => if due s.clk.nextPulse s.clk.now then lsyncPulse s else s) s

/-- LSYNC_PULSE_END: LSYNC returns low at the end of the pulse in progress (R4). -/
def execLsyncPulseEnd (s : State) : Host.Outcome State Fault Refusal :=
  live (fun s =>
    match s.clk.lsync with
    | .low => s
    | .high stop | .cut _ stop => if due stop s.clk.now then { s with clk := { s.clk with lsync := .low } } else s) s

end Sys2Proof.Machine
end

