-- ==== Sys2Proof/Machine/Planner.lean ====
section
/-! DEFINITION. The planner (1.3.4 and chapter 3): PLANNER_TAKE, the eleven steps of the computation, and PLACEMENT. -/

namespace Sys2Proof.Machine

/-- The planning record of a sighting just taken (R18, R38). DESIGN CHOICE, safe: notes/assumptions/28. -/
def PlanRecord.start (g : Sighting) : PlanRecord where
  sighting := g
  next := .age
  pairLine := 0
  pairTime := 0
  age := 0
  bank := none
  c0 := 0
  c1 := 0
  column := 0
  served := []
  nozzles := []
  band := 0
  width := 0
  flight := 0
  seen := 0
  prio := 0
  threshold := 0
  policy := .pass

/-- An idle planner takes the oldest sighting of the intake (R18). The take is an event of its own, also where it follows
the end of an operation at once. DEDUCED, unsafe: notes/assumptions/31. -/
def plannerTake (s : State) : State :=
  match s.planner, s.port.intake with
  | none, g :: rest => { s with port := s.port.withIntake rest, planner := some (.start g) }
  | _, _ => s

/-- Takes a step of planning, if it is the one to be taken now (R38, R40); a wind-down whose last work a step ends is over
with it (R159). DESIGN CHOICE, safe: notes/assumptions/3. -/
def planStep (step : PlanStep) (f : PlanRecord → State → State) (s : State) : State :=
  match s.planner with
  | some r => if r.next = step then endWindDown (f r s) else s
  | none => s

/-- Enters a step's results in the planning record. -/
def setPlan (r : PlanRecord) (s : State) : State := { s with planner := some r }

/-- The data of the bank fixed for the sighting (R42). -/
def planData (r : PlanRecord) (s : State) : BankData := s.banks.data (r.bank.getD s.banks.working)

/-- The age step (R41). -/
def ageStep (r : PlanRecord) (s : State) : State :=
  let age := ageOf s.clk.line r.sighting.stamp
  if s.settings.maxAge < age then endWith r.sighting .untimely s
  else setPlan { r with pairLine := s.clk.line, pairTime := s.clk.lineStart, age := age, next := .bank } s

/-- The bank for a sighting of this age, against the pair's line number (R36). -/
def bankFor (b : TableBanks) (maxAge : Nat) (n : Line) (age : Nat) : Bank :=
  match b.lastSwap with
  | none => b.working
  | some ls =>
    if maxAge < ageOf n ls then b.staging
    else if ageOf n ls < age then b.staging
    else b.working

/-- The bank step (R42). -/
def bankStep (r : PlanRecord) (s : State) : State :=
  setPlan { r with bank := some (bankFor s.banks s.settings.maxAge r.pairLine r.age), next := .band } s

/-- The band step (R43). -/
def bandStep (r : PlanRecord) (s : State) : State :=
  let e := (planData r s).chuteEntry r.sighting.chute
  let c0 := max r.sighting.c0 e.bandFirst
  let c1 := min r.sighting.c1 e.bandLast
  if c1 < c0 then endWith r.sighting .blind s
  else setPlan { r with c0 := c0, c1 := c1, column := c0, served := [], next := .nozzleSet } s

/-- A nozzle number of a chute, if that nozzle is IN SERVICE. -/
def serving (s : State) (h : Chute) (n : Option Nat) : Option Nat :=
  match n with
  | some n => if s.inService (globalId h n) then some n else none
  | none => none

/-- The effective nozzle of a column: the primary in service, else the alternate in service, else none (R44). -/
def effectiveNozzle (s : State) (d : BankData) (h : Chute) (c : Nat) : Option Nat :=
  let e := d.columnEntry h c
  match serving s h e.primary with
  | some n => some n
  | none => serving s h e.alternate

/-- The nozzle set of the effective nozzles found, one for each column that has one: its members with their column
counts, in order of nozzle number (R45). -/
def nozzleSet (served : List Nat) : List (Nat × Nat) :=
  ((List.range Config.nozzlesPerChute).map fun n => (n, served.count n)).filter fun p => 0 < p.2

/-- Whether member `a` is kept before member `b`: more columns, or as many and a lower number (R46). -/
def keptBefore (a b : Nat × Nat) : Bool := b.2 < a.2 || (a.2 == b.2 && a.1 < b.1)

/-- The four members kept of a nozzle set: those that fewer than four are kept before (R46).
DESIGN CHOICE, safe: notes/assumptions/14. -/
def clipSet (l : List (Nat × Nat)) : List (Nat × Nat) :=
  l.filter fun p => l.countP (fun q => keptBefore q p) < Config.planSize

/-- The planning record when the next column has been looked up, if one is left (R44). -/
def PlanRecord.lookUp (r : PlanRecord) (s : State) : PlanRecord :=
  if r.column ≤ r.c1 then
    { r with
      column := r.column + 1
      served := r.served ++ (effectiveNozzle s (planData r s) r.sighting.chute r.column).toList }
  else r

/-- The nozzle set is formed once every column is looked up; an empty one ends the sighting BLIND, one of more than four
is clipped (R45, R46). -/
def formNozzleSet (r : PlanRecord) (s : State) : State :=
  let members := nozzleSet r.served
  if members.isEmpty then endWith r.sighting .blind s
  else
    let s := if Config.planSize < members.length then countSighting r.sighting.chute r.sighting.cls .clipped s else s
    let nozzles := (clipSet members).map fun p => (⟨p.1, p.2, 0, 0, 0, false⟩ : PlanNozzle)
    setPlan { r with nozzles := nozzles, next := .sizeBand } s

/-- The nozzle-set step, as far as its next column: it is looked up as the nozzle states now stand, so that a change
between two columns is seen by those looked up after it, and the last forms the set (R44 to R46).
DESIGN CHOICE, safe: notes/assumptions/34. -/
def nozzleSetStep (r : PlanRecord) (s : State) : State :=
  let r := r.lookUp s
  if r.column ≤ r.c1 then setPlan r s else formNozzleSet r s

/-- The size band of a size: min(7, max(0, floor(log2 s) − 1)) (R47). -/
def sizeBand (size : Nat) : Nat := min 7 (Nat.log2 size - 1)

/-- The size-band step (R47). -/
def sizeBandStep (r : PlanRecord) (s : State) : State :=
  setPlan { r with band := sizeBand r.sighting.size, next := .width } s

/-- A width trimmed for the air pressure, rounded half up, and clamped to [WIDTH MIN, WIDTH MAX] (R49). -/
def trimWidth (airTrim lo hi w : Nat) : Nat := clampNat lo hi ((w * (64 + airTrim) + 64) / 128)

/-- The width step (R48, R49). -/
def widthStep (r : PlanRecord) (s : State) : State :=
  let w := (planData r s).pulseWidth r.sighting.cls r.band
  if w = 0 then endWith r.sighting .passed s
  else
    setPlan { r with
      width := trimWidth s.settings.airTrim s.settings.widthMin s.settings.widthMax w
      next := .flight } s

/-- The flight time D: the base flight trimmed and rounded half up, the class offset added, clamped at 0 (R50). -/
def flightTime (f : Nat) (t offset : Int) : Nat := (((f : Int) * (4096 + t) + 2048).fdiv 4096 + offset).toNat

/-- The flight step (R50). -/
def flightStep (r : PlanRecord) (s : State) : State :=
  let d := planData r s
  let e := d.chuteEntry r.sighting.chute
  setPlan { r with
    flight := flightTime e.flight e.trim (d.classEntry r.sighting.cls).offset
    next := .seenTime } s

/-- The seen time of a sighting (R9). -/
def seenTime (lineStart : Time) (age : Nat) (period : Nat) (side : Side) (lag : Int) : Time :=
  let back : Int := match side with
    | .front => (age : Int) * period
    | .rear => ((age : Int) + lag) * period
  lineStart - BitVec.ofInt 32 back + BitVec.ofNat 32 (period / 2)

/-- The seen-time step (R51). -/
def seenTimeStep (r : PlanRecord) (s : State) : State :=
  let e := (planData r s).chuteEntry r.sighting.chute
  setPlan { r with
    seen := seenTime r.pairTime r.age s.clk.period r.sighting.side e.lag
    next := .times } s

/-- The times of one nozzle of the set: arrival, command time and end time (R52). -/
def nozzleTimes (seen : Time) (flight width : Nat) (n : NozzleRecord) (p : PlanNozzle) : PlanNozzle :=
  let arrival := plus seen flight + BitVec.ofInt 32 n.offset
  let command := minus arrival (n.latency + width / 2)
  { p with arrival := arrival, command := command, stop := plus command width }

/-- The per-nozzle times step (R52). -/
def perNozzleTimesStep (r : PlanRecord) (s : State) : State :=
  setPlan { r with
    nozzles := r.nozzles.map fun p =>
      nozzleTimes r.seen r.flight r.width (s.nozzle (globalId r.sighting.chute p.num)) p
    next := .lead } s

/-- The lead step (R53). -/
def leadStep (r : PlanRecord) (s : State) : State :=
  let nozzles := r.nozzles.map fun p =>
    { p with late := !leadAtLeast s.settings.leadMin p.command s.clk.now }
  if nozzles.all (·.late) then endWith r.sighting .untimely s
  else setPlan { r with nozzles := nozzles, next := .confidence } s

/-- The plan: the nozzles that passed the lead step, with their times (R53, R54). -/
def planOf (r : PlanRecord) : List PlanFiring :=
  (r.nozzles.filter fun p => !p.late).map fun p => ⟨globalId r.sighting.chute p.num, p.command, p.stop⟩

/-- What is handed to the held list (R54, R79, R80). -/
def heldOf (r : PlanRecord) (leadMin : Nat) : HeldEntry where
  chute := r.sighting.chute
  tag := r.sighting.tag
  cls := r.sighting.cls
  prio := r.prio
  policy := r.policy
  plan := planOf r
  deadline := deadlineOf leadMin (planOf r)

/-- The confidence step: on to placement, or the hand-off that ends planning (R54). -/
def confidenceStep (r : PlanRecord) (s : State) : State :=
  let e := (planData r s).classEntry r.sighting.cls
  let r := { r with prio := e.prio, threshold := e.threshold, policy := e.policy, next := .placement }
  if e.threshold ≤ r.sighting.conf then setPlan r s
  else handOff (heldOf r s.settings.leadMin) (endPlanning s)

/-- The placement of a confident sighting's plan, which ends planning (R55, R56). -/
def placement (r : PlanRecord) (s : State) : State :=
  placeAndCount r.sighting.chute r.sighting.cls r.prio (planOf r) (endPlanning s)

/-- PLANNER_TAKE (R18). -/
def execPlannerTake (s : State) : Host.Outcome State Fault Refusal := live plannerTake s
/-- AGE_STEP (R41). -/
def execAgeStep (s : State) : Host.Outcome State Fault Refusal := live (planStep .age ageStep) s
/-- BANK_STEP (R42). -/
def execBankStep (s : State) : Host.Outcome State Fault Refusal := live (planStep .bank bankStep) s
/-- BAND_STEP (R43). -/
def execBandStep (s : State) : Host.Outcome State Fault Refusal := live (planStep .band bandStep) s
/-- NOZZLE_SET_STEP (R44 to R46). -/
def execNozzleSetStep (s : State) : Host.Outcome State Fault Refusal := live (planStep .nozzleSet nozzleSetStep) s
/-- SIZE_BAND_STEP (R47). -/
def execSizeBandStep (s : State) : Host.Outcome State Fault Refusal := live (planStep .sizeBand sizeBandStep) s
/-- WIDTH_STEP (R48, R49). -/
def execWidthStep (s : State) : Host.Outcome State Fault Refusal := live (planStep .width widthStep) s
/-- FLIGHT_STEP (R50). -/
def execFlightStep (s : State) : Host.Outcome State Fault Refusal := live (planStep .flight flightStep) s
/-- SEEN_TIME_STEP (R51). -/
def execSeenTimeStep (s : State) : Host.Outcome State Fault Refusal := live (planStep .seenTime seenTimeStep) s
/-- PER_NOZZLE_TIMES_STEP (R52). -/
def execPerNozzleTimesStep (s : State) : Host.Outcome State Fault Refusal :=
  live (planStep .times perNozzleTimesStep) s
/-- LEAD_STEP (R53). -/
def execLeadStep (s : State) : Host.Outcome State Fault Refusal := live (planStep .lead leadStep) s
/-- CONFIDENCE_STEP (R54). -/
def execConfidenceStep (s : State) : Host.Outcome State Fault Refusal := live (planStep .confidence confidenceStep) s
/-- PLACEMENT (R55, R56). -/
def execPlacement (s : State) : Host.Outcome State Fault Refusal := live (planStep .placement placement) s

end Sys2Proof.Machine
end

