-- ==== Sys2Proof/Machine/Resets.lean ====
section
/-! DEFINITION. The resets and the end of a wind-down (9.2, 9.6): RSTN_LOW, COLD_RESET_END, WIND_DOWN_LIMIT_EXPIRY and
WARM_RESET. -/

namespace Sys2Proof.Machine

/-! ### Cold reset -/

/-- Every block at its cold reset values while RSTN is held low (R148): the mill clock at 0, LSYNC low, the lanes silent,
no CLOSE ALL requested yet, and the inputs taken as released. The individual address is read again only at the end of
the reset (R165). DEDUCED, unsafe: notes/assumptions/9. -/
def heldInReset (s : State) : State where
  pending := s.pending
  clk := { LineClock.restarted coldPeriod with lsync := .low }
  port := ⟨.collecting [], [], false⟩
  banks := .cold
  planner := none
  verdicts := ⟨[], PerChute.const []⟩
  firing := ⟨[], PerChute.const 0, 0⟩
  bus := PerChute.const ⟨.a, 0, false, [], none⟩
  nozzles := []
  ctl := ⟨.standby, true, false, false, none, none, false, false, false, true⟩
  link := ⟨s.link.address, none, .hunting, .idle⟩
  settings := .default
  notices := .cleared
  tally := .zero

/-- The individual address of the straps: their value plus 1 (R165). -/
def strapAddress (straps : BitVec 5) : Byte := BitVec.ofNat 8 (straps.toNat + 1)

/-- ESTOP found asserted as the cold reset ends: the part enters HALT and sets notice ESTOP (R148). -/
def coldEstop (s : State) : State :=
  setNotice .estop none (enterState .halt { s with ctl := { s.ctl with estop := true } })

/-- AIRLOW found asserted as the cold reset ends: an assertion at that moment (R96). -/
def coldAirlow (s : State) : State :=
  setNotice .airLow none { s with ctl := { s.ctl with airlow := true } }

/-- The end of the cold reset (R148): the straps are read, the mark pulse of line 0 begins, a CLOSE ALL is requested on
every chute and granted at once (R114, R124), and ESTOP and AIRLOW are judged. -/
def coldResetEnd (straps : BitVec 5) (estop airlow : Bool) (s : State) : State :=
  let s := { s with
    ctl := { s.ctl with rstn := false }
    clk := LineClock.restarted coldPeriod
    link := { s.link with address := strapAddress straps } }
  let s := grantAll (requestCloseAll s)
  let s := if estop then coldEstop s else s
  if airlow then coldAirlow s else s

/-- RSTN_LOW (R148): taken in every state. -/
def execRstnLow (s : State) : Host.Outcome State Fault Refusal := .next (heldInReset s)

/-- COLD_RESET_END (R148): taken only while the reset lasts. -/
def execColdResetEnd (straps : BitVec 5) (estop airlow : Bool) (s : State) : Host.Outcome State Fault Refusal :=
  .next (if s.ctl.rstn then coldResetEnd straps estop airlow s else s)

/-! ### Wind-down -/

/-- The expiry of the WIND-DOWN LIMIT gives up the work that remains (R160): the CLOSEs it requests are granted where no
transaction is in flight, and a wind-down whose work is done ends in the same event. -/
def windDownExpiry (w : WindDown) (s : State) : State :=
  let s := reduceQueues (emptyHeld (emptyIntake (abandonPlanning s)))
  conclude (grantAll { s with ctl := { s.ctl with windDown := some { w with phase := .closingOut } } })

/-- The expiry, when its time has come in DRAINING (R160). -/
def windDownLimitExpiry (s : State) : State :=
  match s.ctl.windDown with
  | some w => if w.phase = .draining ∧ due w.expiry s.clk.now then windDownExpiry w s else s
  | none => s

/-- WIND_DOWN_LIMIT_EXPIRY (R160). -/
def execWindDownLimitExpiry (s : State) : Host.Outcome State Fault Refusal := live windDownLimitExpiry s

/-! ### Warm reset -/

/-- Whether a warm reset is to be taken: the wind-down's work is done (R159), or an emergency stop has ended a wind-down
(R162). DEDUCED, unsafe: notes/assumptions/7. -/
def warmResetReady (s : State) : Bool := s.ctl.resetDue || (s.ctl.op == .windDown && workDone s)

/-- WARM_RESET (R161, R162). -/
def execWarmReset (s : State) : Host.Outcome State Fault Refusal :=
  live (fun s => if warmResetReady s then warmReset s else s) s

end Sys2Proof.Machine
end

