-- ==== Sys2Proof/Machine/SightingPort.lean ====
section
/-! DEFINITION. The sighting port (1.3): SIGHTING_RECORD, VERDICT_RECORD, PARTIAL_RECORD_TIMEOUT and
RESYNC_IDLE_TIMEOUT. -/

namespace Sys2Proof.Machine

/-- The sighting link's receiver set. -/
def setRecordRx (r : RecordRx) (s : State) : State := { s with port := { s.port with rx := r } }

/-- A link error: counted, and notice LINK ERROR set (R11). -/
def linkError (s : State) : State := setNotice .linkError none (countLinkError s)

/-- A decoded sighting arrives: admitted in RUN with room, dropped as OVERFLOW in RUN without, REFUSED in every other
state (R13, R14). -/
def admitSighting (g : Sighting) (s : State) : State :=
  if s.ctl.op = .run then
    if s.port.intake.length < Config.intakeSize then
      countSighting g.chute g.cls .seen { s with port := s.port.withIntake (s.port.intake ++ [g]) }
    else setNotice .intakeOverflow (some g.chute) (countChute g.chute .overflow s)
  else countChute g.chute .refused s

/-- A completed record is checked, decoded and passed on (R11, R12, R15). DESIGN CHOICE, safe: notes/assumptions/29. -/
def completeRecord (bytes : List Byte) (s : State) : State :=
  match decodeRecord bytes with
  | .bad => linkError (setRecordRx .resyncing s)
  | .badCode => linkError (setRecordRx (.collecting []) s)
  | .sighting g => admitSighting g (setRecordRx (.collecting []) s)
  | .verdict h tag confirm => takeVerdict h tag confirm (setRecordRx (.collecting []) s)

/-- One byte arrives on the sighting link (R10). -/
def recordByte (s : State) (b : Byte) : State :=
  match s.port.rx with
  | .resyncing => s
  | .collecting bytes =>
    let gathered := bytes ++ [b]
    if gathered.length < 12 then setRecordRx (.collecting gathered) s else completeRecord gathered s

/-- Bytes arrive on the sighting link without an idle gap between them (R10).
DESIGN CHOICE, safe: notes/assumptions/12. -/
def recordBytesIn (bytes : List Byte) (s : State) : State := bytes.foldl recordByte s

/-- The sighting link has been idle for more than 20 µs: a partial record is discarded as a link error, and a receiver
that was RESYNCING is COLLECTING with no bytes gathered (R10, R11). -/
def recordGap (s : State) : State :=
  match s.port.rx with
  | .collecting (_ :: _) => linkError (setRecordRx (.collecting []) s)
  | .collecting [] => s
  | .resyncing => setRecordRx (.collecting []) s

/-- SIGHTING_RECORD: the record's bytes arrive (R10 to R14). -/
def execSightingRecord (bytes : List Byte) (s : State) : Host.Outcome State Fault Refusal :=
  live (recordBytesIn bytes) s

/-- VERDICT_RECORD: the record's bytes arrive (R10, R11, R15, R83). -/
def execVerdictRecord (bytes : List Byte) (s : State) : Host.Outcome State Fault Refusal :=
  live (recordBytesIn bytes) s

/-- PARTIAL_RECORD_TIMEOUT: some bytes of a record, then the gap (R10, R11). -/
def execPartialRecordTimeout (bytes : List Byte) (s : State) : Host.Outcome State Fault Refusal :=
  live (fun s => recordGap (recordBytesIn bytes s)) s

/-- RESYNC_IDLE_TIMEOUT: the receiver returns to COLLECTING with no bytes gathered (R10). -/
def execResyncIdleTimeout (s : State) : Host.Outcome State Fault Refusal :=
  live (fun s => if s.port.rx = .resyncing then setRecordRx (.collecting []) s else s) s

end Sys2Proof.Machine
end

