-- ==== Sys2Proof/Machine/ValveBus.lean ====
section
/-! DEFINITION. The valve bus controllers (chapter 7) and what their results do to the dispatchers (R100 to R104) and the
nozzle records (7.6): GRANT, COMMAND_SENT, REPLY_WAIT_EXPIRY and VALVE_REPLY. -/

namespace Sys2Proof.Machine

/-! ### Sends -/

/-- The reply wait of a REPLY WAIT code, in microseconds (R117). -/
def replyWaitOf (code : Nat) : Nat := 20 * 2 ^ code

/-- The last byte of a chute's command has left its lane: the reply wait starts (R117). -/
def commandSent (h : Chute) (s : State) : State :=
  let b := s.busOf h
  match b.inFlight with
  | some t =>
    if t.waitEnd = none then
      s.setBus h { b with
        inFlight := some { t with waitEnd := some (plus s.clk.now (replyWaitOf s.settings.replyWait)) } }
    else s
  | none => s

/-! ### Results and the nozzle record (7.6) -/

/-- A learned latency: one eighth of the way toward the measurement (R127). -/
def learn (v m : Nat) : Nat := (clampInt 0 Config.latencyMax ((v : Int) + ((m : Int) - v + 4).fdiv 8)).toNat

/-- An OPEN with DONE and latency m acts on the nozzle record (R126, R127). -/
def openDone (g m : Nat) (s : State) : State :=
  let r := s.nozzle g
  let r := { r with wear := satAdd r.wear 1, misses := 0, lastResult := .done }
  s.setNozzle g
    (if m = 0 then r
     else
      { r with
        lastLatency := m
        latency := if (workingChute s (chuteOf g)).learning then learn r.latency m else r.latency })

/-- An OPEN with NO REPLY acts on the nozzle record (R128). -/
def openNoReply (g : Nat) (s : State) : State :=
  let r := s.nozzle g
  let misses := min (r.misses + 1) Config.missMax
  let s := s.setNozzle g { r with misses := misses, lastResult := .noReply }
  if s.settings.missLimit ≤ misses then makeFailed g .misses s else s

/-- An OPEN with COIL FAULT acts on the nozzle record (R129). -/
def openCoilFault (g : Nat) (s : State) : State :=
  makeFailed g .openCoilFault (s.setNozzle g { s.nozzle g with lastResult := .coilFault })

/-- A CLOSE with DONE acts on the nozzle record (R129). -/
def closeDone (g : Nat) (s : State) : State := s.setNozzle g { s.nozzle g with lastResult := .done }

/-- A CLOSE that is not confirmed: the last result is taken, the nozzle is made FAILED, CLOSE FAILED is set (R129). -/
def closeNotConfirmed (g : Nat) (result : LastResult) (s : State) : State :=
  setNotice .closeFailed (some (chuteOf g))
    (makeFailed g .closeNotConfirmed (s.setNozzle g { s.nozzle g with lastResult := result }))

/-- The result of a transaction acts on the nozzle record (7.6). -/
def nozzleEffect (t : Transaction) (result : LastResult) (m : Nat) (s : State) : State :=
  match t.kind, result with
  | .opn, .done => openDone t.nozzle m s
  | .opn, .noReply => openNoReply t.nozzle s
  | .opn, .coilFault => openCoilFault t.nozzle s
  | .close, .done => closeDone t.nozzle s
  | .close, .noReply => closeNotConfirmed t.nozzle .noReply s
  | .close, .coilFault => closeNotConfirmed t.nozzle .coilFault s
  | _, _ => s

/-! ### Results and the dispatcher (R101 to R104) -/

/-- An OPENING entry becomes OPEN, or CLOSING with a CLOSE requested if its end has been reached (R101). -/
def openCompleted (g : Nat) (e : Entry) (s : State) : State :=
  let h := chuteOf g
  if atOrBefore e.stop s.clk.now then
    handRequest ⟨false, g, e.ident, e.stop⟩
      (updateEntry g e.ident (fun x => { x with
          phase := .closing
          firing := x.firing.map fun f => { f with openReq := .complete, closeReq := .waiting } })
        (s.setOpenCount h (s.openCount h - 1)))
  else
    updateEntry g e.ident (fun x => { x with
      phase := .opened
      firing := x.firing.map fun f => { f with openReq := .complete } }) s

/-- The dispatcher takes the completion of an OPEN (R101, R102, R62). -/
def dispatchOpen (g ident : Nat) (result : LastResult) (s : State) : State :=
  match findEntry s g ident with
  | none => s
  | some e =>
    let s := countChute (chuteOf g) (if result = .done then .opened else .unconfirmed) s
    if e.phase = .opening then openCompleted g e s
    else
      updateEntry g ident (fun x => { x with
        firing := x.firing.map fun f => { f with openReq := .complete } }) s

/-- The dispatcher takes the completion of a CLOSE: the CLOSING entry leaves its queue whatever the result (R104, R71).
DESIGN CHOICE, safe: notes/assumptions/22. -/
def dispatchClose (g ident : Nat) (s : State) : State :=
  match findEntry s g ident with
  | some e => if e.phase = .closing then removeEntry g ident s else s
  | none => s

/-- The result of a transaction is handed to the chute's dispatcher (R121). -/
def dispatchEffect (t : Transaction) (result : LastResult) (s : State) : State :=
  match t.kind with
  | .opn => dispatchOpen t.nozzle t.ident result s
  | .close => dispatchClose t.nozzle t.ident s
  | .closeAll => s

/-! ### Completion -/

/-- The lane flip of an answered retry (R120). -/
def flipLane (h : Chute) (lane : Lane) (s : State) : State :=
  setNotice .laneFlipped (some h)
    (countChute h .laneFlips (s.setBus h { s.busOf h with active := lane }))

/-- The bus becomes free and the arbiter grants the next request (R121, R115). -/
def freeBus (h : Chute) (s : State) : State :=
  grantNext h (s.setBus h { s.busOf h with inFlight := none })

/-- An OPEN or CLOSE transaction completes (R121). -/
def completeTransaction (h : Chute) (t : Transaction) (result : LastResult) (m : Nat) (s : State) : State :=
  let s := if t.retry && result != .noReply then flipLane h t.lane s else s
  conclude (freeBus h (dispatchEffect t result (nozzleEffect t result m s)))

/-- The wait of a CLOSE ALL's send ends: after lane A the send on lane B follows, after lane B it is complete, and CLOSE
FAILED is set if neither send drew DONE (R123). -/
def closeAllSendEnds (h : Chute) (t : Transaction) (s : State) : State :=
  match t.lane with
  | .a => send h t .b s
  | .b =>
    conclude (freeBus h (if t.drewDone then s else setNotice .closeFailed (some h) s))

/-- The first send's wait has run out: the same command is sent on the other lane with a new tag (R119). -/
def retry (h : Chute) (t : Transaction) (s : State) : State :=
  countChute h .retries (send h { t with retry := true } (otherLane t.lane) s)

/-- A chute's reply wait runs out, when its end has come (R117, R119, R121, R123). -/
def replyWaitExpiry (h : Chute) (s : State) : State :=
  match (s.busOf h).inFlight with
  | none => s
  | some t =>
    match t.waitEnd with
    | none => s
    | some stop =>
      if due stop s.clk.now then
        match t.kind with
        | .closeAll => closeAllSendEnds h t s
        | .opn | .close => if t.retry then completeTransaction h t .noReply 0 s else retry h t s
      else s

/-- Whether the reply wait of the current send has not run out (R118). DEDUCED, unsafe: notes/assumptions/13. -/
def withinWait (t : Transaction) (now : Time) : Bool :=
  match t.waitEnd with
  | none => true
  | some stop => !before stop now

/-- A reply arrives on a lane of a chute's bus: a good one ends the current send, any other is ignored (R118). -/
def valveReply (h : Chute) (lane : Lane) (bytes : List Byte) (s : State) : State :=
  match (s.busOf h).inFlight, decodeValveReply bytes with
  | some t, some r =>
    if lane = t.lane ∧ r.tag = t.tag ∧ withinWait t s.clk.now then
      match t.kind with
      | .closeAll => closeAllSendEnds h { t with drewDone := t.drewDone || r.done } s
      | .opn | .close => completeTransaction h t (if r.done then .done else .coilFault) r.latency s
    else s
  | _, _ => s

/-- GRANT: with no transaction in flight and a request waiting, the arbiter grants (R115).
DEDUCED, unsafe: notes/assumptions/5. -/
def execGrant (h : Chute) (s : State) : Host.Outcome State Fault Refusal :=
  live (fun s =>
    if (s.busOf h).inFlight.isSome then s
    else if (s.busOf h).closeAll || !(s.busOf h).requests.isEmpty then conclude (grantNext h s)
    else s) s

/-- COMMAND_SENT (R117). -/
def execCommandSent (h : Chute) (s : State) : Host.Outcome State Fault Refusal := live (commandSent h) s

/-- REPLY_WAIT_EXPIRY (R119). -/
def execReplyWaitExpiry (h : Chute) (s : State) : Host.Outcome State Fault Refusal := live (replyWaitExpiry h) s

/-- VALVE_REPLY (R118). -/
def execValveReply (h : Chute) (lane : Lane) (bytes : List Byte) (s : State) : Host.Outcome State Fault Refusal :=
  live (valveReply h lane bytes) s

end Sys2Proof.Machine
end

