-- ==== Sys2Proof/Machine/Dispatch.lean ====
section
/-! DEFINITION. The meaning of each command: one arm per constructor of Instr, in the order of the opcode table. -/

namespace Sys2Proof.Machine

/-- A command's effect on everything but the queue. -/
def exec (i : Instr) (s : State) : Host.Outcome State Fault Refusal :=
  match i with
  | .rstnLow => Sys2Proof.Machine.execRstnLow s
  | .coldResetEnd straps estop airlow => Sys2Proof.Machine.execColdResetEnd straps estop airlow s
  | .lsyncPulse => Sys2Proof.Machine.execLsyncPulse s
  | .sightingRecord bytes => Sys2Proof.Machine.execSightingRecord bytes s
  | .verdictRecord bytes => Sys2Proof.Machine.execVerdictRecord bytes s
  | .partialRecordTimeout bytes => Sys2Proof.Machine.execPartialRecordTimeout bytes s
  | .resyncIdleTimeout => Sys2Proof.Machine.execResyncIdleTimeout s
  | .plannerTake => Sys2Proof.Machine.execPlannerTake s
  | .ageStep => Sys2Proof.Machine.execAgeStep s
  | .bankStep => Sys2Proof.Machine.execBankStep s
  | .bandStep => Sys2Proof.Machine.execBandStep s
  | .nozzleSetStep => Sys2Proof.Machine.execNozzleSetStep s
  | .sizeBandStep => Sys2Proof.Machine.execSizeBandStep s
  | .widthStep => Sys2Proof.Machine.execWidthStep s
  | .flightStep => Sys2Proof.Machine.execFlightStep s
  | .seenTimeStep => Sys2Proof.Machine.execSeenTimeStep s
  | .perNozzleTimesStep => Sys2Proof.Machine.execPerNozzleTimesStep s
  | .leadStep => Sys2Proof.Machine.execLeadStep s
  | .confidenceStep => Sys2Proof.Machine.execConfidenceStep s
  | .placement => Sys2Proof.Machine.execPlacement s
  | .deadlineExpiry chute tag => Sys2Proof.Machine.execDeadlineExpiry chute tag s
  | .entryStart nozzle => Sys2Proof.Machine.execEntryStart nozzle s
  | .entryEnd nozzle => Sys2Proof.Machine.execEntryEnd nozzle s
  | .grant chute => Sys2Proof.Machine.execGrant chute s
  | .commandSent chute => Sys2Proof.Machine.execCommandSent chute s
  | .replyWaitExpiry chute => Sys2Proof.Machine.execReplyWaitExpiry chute s
  | .valveReply chute lane bytes => Sys2Proof.Machine.execValveReply chute lane bytes s
  | .estopAssertion => Sys2Proof.Machine.execEstopAssertion s
  | .estopRelease => Sys2Proof.Machine.execEstopRelease s
  | .airlowAssertion => Sys2Proof.Machine.execAirlowAssertion s
  | .airlowRelease => Sys2Proof.Machine.execAirlowRelease s
  | .purgeTurn => Sys2Proof.Machine.execPurgeTurn s
  | .purgeComplete => Sys2Proof.Machine.execPurgeComplete s
  | .windDownLimitExpiry => Sys2Proof.Machine.execWindDownLimitExpiry s
  | .warmReset => Sys2Proof.Machine.execWarmReset s
  | .dryFlagSet => Sys2Proof.Machine.execDryFlagSet s
  | .controlError bytes => Sys2Proof.Machine.execControlError bytes s
  | .frameIdleTimeout bytes => Sys2Proof.Machine.execFrameIdleTimeout bytes s
  | .controlResyncTimeout => Sys2Proof.Machine.execControlResyncTimeout s
  | .replyTurnaroundEnd => Sys2Proof.Machine.execReplyTurnaroundEnd s
  | .replySent => Sys2Proof.Machine.execReplySent s
  | .unknownCommand addr kind payload => Sys2Proof.Machine.execUnknownCommand addr kind payload s
  | .poll addr payload => Sys2Proof.Machine.execPoll addr payload s
  | .notices addr payload => Sys2Proof.Machine.execNotices addr payload s
  | .rearm addr payload => Sys2Proof.Machine.execRearm addr payload s
  | .goRun addr payload => Sys2Proof.Machine.execGoRun addr payload s
  | .goStandby addr payload => Sys2Proof.Machine.execGoStandby addr payload s
  | .purge addr payload => Sys2Proof.Machine.execPurge addr payload s
  | .restart addr payload => Sys2Proof.Machine.execRestart addr payload s
  | .clearCold addr payload => Sys2Proof.Machine.execClearCold addr payload s
  | .dryOn addr rest => Sys2Proof.Machine.execDryOn addr rest s
  | .dryOff addr rest => Sys2Proof.Machine.execDryOff addr rest s
  | .window addr payload => Sys2Proof.Machine.execWindow addr payload s
  | .put addr payload => Sys2Proof.Machine.execPut addr payload s
  | .get addr payload => Sys2Proof.Machine.execGet addr payload s
  | .swapAtLine addr rest => Sys2Proof.Machine.execSwapAtLine addr rest s
  | .swapAtNextLine addr rest => Sys2Proof.Machine.execSwapAtNextLine addr rest s
  | .swapCancel addr rest => Sys2Proof.Machine.execSwapCancel addr rest s
  | .nozzleRead addr payload => Sys2Proof.Machine.execNozzleRead addr payload s
  | .nozzleWrite addr payload => Sys2Proof.Machine.execNozzleWrite addr payload s
  | .test addr payload => Sys2Proof.Machine.execTest addr payload s
  | .lane addr payload => Sys2Proof.Machine.execLane addr payload s
  | .setAirTrim addr rest => Sys2Proof.Machine.execSetAirTrim addr rest s
  | .setLinePeriod addr rest => Sys2Proof.Machine.execSetLinePeriod addr rest s
  | .setMaxAge addr rest => Sys2Proof.Machine.execSetMaxAge addr rest s
  | .setLeadMin addr rest => Sys2Proof.Machine.execSetLeadMin addr rest s
  | .setWidthMin addr rest => Sys2Proof.Machine.execSetWidthMin addr rest s
  | .setWidthMax addr rest => Sys2Proof.Machine.execSetWidthMax addr rest s
  | .setWidthCap addr rest => Sys2Proof.Machine.execSetWidthCap addr rest s
  | .setValveGap addr rest => Sys2Proof.Machine.execSetValveGap addr rest s
  | .setReplyWait addr rest => Sys2Proof.Machine.execSetReplyWait addr rest s
  | .setMissLimit addr rest => Sys2Proof.Machine.execSetMissLimit addr rest s
  | .setWindDownLimit addr rest => Sys2Proof.Machine.execSetWindDownLimit addr rest s
  | .setGroupAddress addr rest => Sys2Proof.Machine.execSetGroupAddress addr rest s
  | .setNoticeMask addr rest => Sys2Proof.Machine.execSetNoticeMask addr rest s
  | .query addr payload => Sys2Proof.Machine.execQuery addr payload s
  | .tally addr payload => Sys2Proof.Machine.execTally addr payload s
  | .lsyncPulseEnd => Sys2Proof.Machine.execLsyncPulseEnd s

end Sys2Proof.Machine
end

