-- ==== Sys2Proof/Machine/Idle.lean ====
section
/-! DEFINITION. What the part does while no command waits: which of its own events is due, and the tick of the mill
clock. DESIGN CHOICE, unsafe: R2 leaves the order of events due together open, and the order of `dueEvents` is fixed. -/

namespace Sys2Proof.Machine

/-- The four chutes. -/
def chutes : List Chute := [0, 1, 2, 3]

/-- The global nozzle ids of the queues that are listed, and so can hold work. -/
def listedNozzles (s : State) : List Nat := s.firing.queues.map (·.1)

/-- A command if a condition holds. -/
def whenever (b : Bool) (i : Instr) : List Instr := if b then [i] else []

/-- Whether the reply wait of a chute's send has run out (R119). -/
def waitOver (s : State) (h : Chute) : Bool :=
  match (s.busOf h).inFlight with
  | some t => (t.waitEnd.map fun stop => due stop s.clk.now).getD false
  | none => false

/-- Whether a chute's arbiter has a request to grant (R115). -/
def canGrant (s : State) (h : Chute) : Bool :=
  (s.busOf h).inFlight.isNone && ((s.busOf h).closeAll || !(s.busOf h).requests.isEmpty)

/-- Whether the pulse on LSYNC is over (R4). -/
def pulseOver (s : State) : Bool :=
  match s.clk.lsync with
  | .low => false
  | .high stop | .cut _ stop => due stop s.clk.now

/-- Whether the limit of a DRAINING wind-down has come (R160). -/
def limitDue (s : State) : Bool :=
  match s.ctl.windDown with
  | some w => w.phase == .draining && due w.expiry s.clk.now
  | none => false

/-- Whether a purge turn is due (R154). -/
def turnDue (s : State) : Bool :=
  match s.ctl.purge with
  | some p => !p.ended && due p.nextTime s.clk.now
  | none => false

/-- Whether the turnaround has lasted as long as it may (R170). -/
def turnaroundOver (s : State) : Bool :=
  match s.link.tx with
  | .turnaround _ since => Config.turnaroundMax ≤ spanOf since s.clk.now
  | _ => false

/-- The part's own events that are due now, in the fixed order of the idle step.
DESIGN CHOICE, unsafe: notes/assumptions/2. -/
def dueEvents (s : State) : List Instr :=
  whenever (warmResetReady s) .warmReset
    ++ whenever (limitDue s) .windDownLimitExpiry
    ++ whenever (pulseOver s) .lsyncPulseEnd
    ++ whenever (due s.clk.nextPulse s.clk.now) .lsyncPulse
    ++ whenever (turnDue s) .purgeTurn
    ++ ((s.verdicts.held.filter fun e => due e.deadline s.clk.now).map fun e => .deadlineExpiry e.chute e.tag)
    ++ ((listedNozzles s).filter fun g => (endingEntry s g).isSome).map .entryEnd
    ++ ((listedNozzles s).filter fun g => (startingEntry s g).isSome).map .entryStart
    ++ (chutes.filter (waitOver s)).map .replyWaitExpiry
    ++ (chutes.filter (canGrant s)).map .grant
    ++ whenever (s.planner.isNone && !s.port.intake.isEmpty) .plannerTake
    ++ whenever (turnaroundOver s) .replyTurnaroundEnd

/-- One microsecond passes (R1). DESIGN CHOICE, unsafe: notes/assumptions/1. -/
def tick (s : State) : State := { s with clk := { s.clk with now := s.clk.now + 1 } }

/-- The event that an empty queue lets happen: the first that is due; none while the part is held in reset, whose mill
clock stands at 0 (R148). -/
def idleEvent (s : State) : Option Instr := if s.ctl.rstn then none else (dueEvents s).head?

/-- The passing of time with nothing due; none while the part is held in reset. -/
def idleTick (s : State) : State := if s.ctl.rstn then s else tick s

/-- A command put at the front of the queue. -/
def pushCommand (c : Option Instr) (s : State) : State :=
  match c with
  | some i => { s with pending := i :: s.pending }
  | none => s

end Sys2Proof.Machine
end

