-- ==== Sys2Proof/Machine/Step.lean ====
section
/-! DEFINITION. One step of the part: the command at the front of the queue, or, on an empty queue, what the part does on
its own. -/

namespace Sys2Proof.Machine

/-- What a step does on an empty queue: the part's own first event that is due, else one microsecond passes.
DESIGN CHOICE, unsafe: notes/assumptions/1. -/
def idle (s : State) : Host.Outcome State Fault Refusal :=
  match idleEvent s with
  | some i => exec i s
  | none => .next (idleTick s)

/-- One step. -/
def step (s : State) : Host.Outcome State Fault Refusal :=
  match s.pending with
  | c :: rest => exec c { s with pending := rest }
  | [] => idle s

/-- The command that a word of the opcode table spells, put at the front of the queue.
DEDUCED, safe: notes/assumptions/30. -/
def State.withFetchWord (s : State) (nbits w : Nat) : State := pushCommand (decodeTableWord nbits w) s

end Sys2Proof.Machine
end

