-- ==== Sys2Proof/WellFormed.lean ====
section
/-! DEFINITION. Which command terms describe an event that can arrive: the lengths of its bytes, the range of a
nozzle id and of a number of columns. The machine gives every term a meaning, well-formed or not. -/

namespace Sys2Proof

/-- The bytes of one record of the sighting link: at most twelve, at least one (R10). -/
def recordBytes (bytes : List Byte) : Bool :=
  1 ≤ bytes.length && bytes.length ≤ 12

/-- A frame's payload is at most 200 bytes long (R166). -/
def framePayload (payload : List Byte) : Bool :=
  payload.length ≤ Config.maxPayload

/-- A payload less its first byte. -/
def frameRest (rest : List Byte) : Bool :=
  rest.length + 1 ≤ Config.maxPayload

/-- The well-formed commands. -/
def Instr.wellFormed : Instr → Bool
  | .rstnLow | .coldResetEnd _ _ _ | .lsyncPulse | .resyncIdleTimeout | .plannerTake | .ageStep | .bankStep | .bandStep
  | .nozzleSetStep | .sizeBandStep | .widthStep | .flightStep | .seenTimeStep | .perNozzleTimesStep | .leadStep
  | .confidenceStep | .placement | .deadlineExpiry _ _ | .grant _ | .commandSent _ | .replyWaitExpiry _
  | .estopAssertion | .estopRelease | .airlowAssertion | .airlowRelease | .purgeTurn | .purgeComplete
  | .windDownLimitExpiry | .warmReset | .dryFlagSet | .controlResyncTimeout | .replyTurnaroundEnd | .replySent
  | .lsyncPulseEnd => true
  | .sightingRecord bytes | .verdictRecord bytes => recordBytes bytes
  | .partialRecordTimeout bytes => bytes.length ≤ 11
  | .entryStart nozzle | .entryEnd nozzle => nozzle < Config.nozzleCount
  | .valveReply _ _ bytes => bytes.length == 4
  | .controlError bytes | .frameIdleTimeout bytes => bytes.length ≤ Config.maxPayload + 6
  | .unknownCommand _ _ p | .poll _ p | .notices _ p | .rearm _ p | .goRun _ p | .goStandby _ p | .purge _ p
  | .restart _ p | .clearCold _ p | .window _ p | .put _ p | .get _ p | .nozzleRead _ p | .nozzleWrite _ p | .test _ p
  | .lane _ p | .query _ p | .tally _ p => framePayload p
  | .dryOn _ r | .dryOff _ r | .swapAtLine _ r | .swapAtNextLine _ r | .swapCancel _ r | .setAirTrim _ r
  | .setLinePeriod _ r | .setMaxAge _ r | .setLeadMin _ r | .setWidthMin _ r | .setWidthMax _ r | .setWidthCap _ r
  | .setValveGap _ r | .setReplyWait _ r | .setMissLimit _ r | .setWindDownLimit _ r | .setGroupAddress _ r
  | .setNoticeMask _ r => frameRest r

end Sys2Proof
end

