-- ==== Sys2Proof/Safety.lean ====
section
/-! DEFINITION. The conditions that statements about the part use: when it hears a command, and the invariants that its
state keeps. -/

namespace Sys2Proof.Machine

/-! ### When the part takes events and commands -/

/-- The part is not held in reset (R148). -/
abbrev Awake (s : State) : Prop := s.ctl.rstn = false

/-- The control port can take up a frame: the transmitter is IDLE and the receiver HUNTING (R166, R170). -/
abbrev Listening (s : State) : Prop := Awake s ∧ s.link.tx = .idle ∧ s.link.rx = .hunting

/-- A frame with this ADDRESS comes to the individual address of a part that can take it up (R165, R168), and no warm
reset is owed, which would come before a command of the state controller (R162). -/
abbrev Heard (s : State) (addr : Byte) : Prop :=
  Listening s ∧ s.ctl.resetDue = false ∧ addr = s.link.address ∧ 1 ≤ addr.toNat ∧ addr.toNat ≤ 32

/-- The reply of a command, given to the transmitter now (R170). -/
def replied (kind : Byte) (result : Result) (payload : List Byte) (s : State) : State :=
  { s with link := { s.link with tx := .turnaround ⟨kind, result, payload⟩ s.clk.now } }

/-- The reply of a numeric SET whose range is [lo, hi], its window closed (R30, R171). -/
def settingReply (id chute : Byte) (lo hi v : Nat) (t : State) : State :=
  replied 0x12 (if lo ≤ v ∧ v ≤ hi then .done else .clamped) (id :: chute :: bytes32 (max lo (min hi v)))
    { t with link := { t.link with window := none } }

/-- A command that brings at most one whole frame to the control port: it is well-formed, the receiver is HUNTING, and it
is not one of the rows that bring loose bytes. -/
def OneFrame (c : Instr) (s : State) : Prop :=
  c.wellFormed = true ∧ s.link.rx = .hunting ∧
    ∀ bytes : List Byte, c ≠ .controlError bytes ∧ c ≠ .frameIdleTimeout bytes

/-- Whether a command's LENGTH is the one its layout gives: that of the table of 12.4, for a PUT also the entry length of
the open PUT window's table, for a NOZZLE WRITE 2 and the fields its presence byte names (R186). -/
def lengthFits (window : Option Window) (kind : Byte) (payload : List Byte) : Bool :=
  let fields := fun presence : Byte =>
    (if presence.getLsbD 0 then 1 else 0) + (if presence.getLsbD 1 then 2 else 0)
      + (if presence.getLsbD 2 then 2 else 0) + if presence.getLsbD 3 then 4 else 0
  match kind.toNat with
  | 0x01 | 0x02 | 0x03 | 0x04 | 0x05 | 0x07 | 0x08 | 0x0C => payload.length == 0
  | 0x09 | 0x0E => payload.length == 1
  | 0x11 | 0x13 => payload.length == 2
  | 0x0D | 0x10 | 0x14 => payload.length == 3
  | 0x06 => payload.length == 5
  | 0x0A | 0x12 => payload.length == 6
  | 0x0B =>
    match window with
    | some w =>
      if w.dir = .put then payload.length == entryLength w.table
      else [2, 5, 11].contains payload.length
    | none => [2, 5, 11].contains payload.length
  | 0x0F => payload.length == 2 + fields (payload.getD 1 0)
  | _ => true

/-- A link error: LINK ERRORS counted, notice LINK ERROR set, the receiver left in the state named (R11). -/
def linkErrorWith (rx : RecordRx) (s : State) : State :=
  setNotice .linkError none { s with
    port := { s.port with rx := rx }
    tally := { s.tally with link := { s.tally.link with linkErrors := min (s.tally.link.linkErrors + 1) 4294967295 } } }

/-- A control error: CONTROL ERRORS counted, the receiver left in the state named (R167). -/
def controlErrorWith (rx : FrameRx) (s : State) : State :=
  { s with
    link := { s.link with rx := rx }
    tally := { s.tally with
      link := { s.tally.link with controlErrors := min (s.tally.link.controlErrors + 1) 4294967295 } } }

/-- Commands taken one after another with nothing between them. -/
def execAll : List Instr → State → Host.Outcome State Fault Refusal
  | [], s => .next s
  | c :: cs, s =>
    match exec c s with
    | .next t => execAll cs t
    | o => o

/-- Column `c` of chute `h` has nozzle `n` as its effective nozzle under a bank (R44). -/
def Serves (s : State) (bank : Bank) (h : Chute) (c n : Nat) : Prop :=
  let e := (s.banks.data bank).columnEntry h c
  (e.primary = some n ∧ (s.nozzle (globalId h n)).state = .inService) ∨
    ((∀ p, e.primary = some p → (s.nozzle (globalId h p)).state ≠ .inService) ∧
      e.alternate = some n ∧ (s.nozzle (globalId h n)).state = .inService)

/-- The air a chute may use now: its air cap, halved while AIRLOW is asserted, but at least 1 (R95). -/
def airNow (s : State) (h : Chute) : Nat :=
  let cap := (workingChute s h).airCap
  if s.ctl.airlow then max 1 (cap / 2) else cap

/-- Request `a` goes before request `b` of its kind: the earlier due time, then the lower nozzle (R115). -/
abbrev GoesBefore (a b : Request) : Prop :=
  before a.due b.due = true ∨ (a.due = b.due ∧ a.nozzle < b.nozzle)

/-- Command `c` completes the OPEN or CLOSE in flight, `t`, on the bus of chute `h` with a result: a good reply on the
lane of the current send (R118; notes/assumptions/13), or the end of the retry's reply wait (R119, R121). -/
def Completes (s : State) (h : Chute) (t : Transaction) (result : LastResult) : Instr → Prop
  | .valveReply k lane bytes => k = h ∧ lane = t.lane ∧ ∃ v, decodeValveReply bytes = some v ∧ v.tag = t.tag ∧
      (∀ stop, t.waitEnd = some stop → before stop s.clk.now = false) ∧
      result = if v.done then .done else .coilFault
  | .replyWaitExpiry k => k = h ∧ t.retry = true ∧ result = .noReply ∧
      ∃ stop, t.waitEnd = some stop ∧ due stop s.clk.now = true
  | _ => False

/-- The wind-down's work is done (R159). -/
def NothingLeft (s : State) : Prop :=
  s.port.intake = [] ∧ s.planner = none ∧ s.verdicts.held = [] ∧ ∀ p ∈ s.firing.queues, p.2 = []

/-- The part's own events that are due: those whose time has come (R2) or whose condition holds. -/
def DueNow (s : State) : Instr → Prop
  | .warmReset => s.ctl.resetDue = true ∨ (s.ctl.op = .windDown ∧ NothingLeft s)
  | .windDownLimitExpiry => ∃ w, s.ctl.windDown = some w ∧ w.phase = .draining ∧ due w.expiry s.clk.now = true
  | .lsyncPulseEnd => ∃ rise stop, (s.clk.lsync = .high stop ∨ s.clk.lsync = .cut rise stop) ∧ due stop s.clk.now = true
  | .lsyncPulse => due s.clk.nextPulse s.clk.now = true
  | .purgeTurn => ∃ p, s.ctl.purge = some p ∧ p.ended = false ∧ due p.nextTime s.clk.now = true
  | .deadlineExpiry h tag => ∃ e ∈ s.verdicts.held, e.chute = h ∧ e.tag = tag ∧ due e.deadline s.clk.now = true
  | .entryEnd g => ∃ e ∈ s.queue g, e.phase = .opened ∧ due e.stop s.clk.now = true
  | .entryStart g => ∃ e ∈ s.queue g, e.phase = .waiting ∧ due e.start s.clk.now = true
  | .replyWaitExpiry h => ∃ t stop, (s.busOf h).inFlight = some t ∧ t.waitEnd = some stop ∧ due stop s.clk.now = true
  | .grant h => (s.busOf h).inFlight = none ∧ ((s.busOf h).closeAll = true ∨ (s.busOf h).requests ≠ [])
  | .plannerTake => s.planner = none ∧ s.port.intake ≠ []
  | .replyTurnaroundEnd => ∃ reply since, s.link.tx = .turnaround reply since ∧ 200 ≤ (s.clk.now - since).toNat
  | _ => False

/-- A command's result says that it was taken (R169). -/
def Result.taken : Result → Bool
  | .done | .clamped => true
  | _ => false

/-! ### Invariants -/

/-- ATTN is pulled exactly while the part is armed with an unmasked kind pending (R176). -/
def AttnJudged (s : State) : Prop :=
  s.notices.attn = (s.notices.armed && noticeKinds.any fun k =>
    (s.notices.record k).pending && !s.settings.noticeMask.getLsbD k.place)

/-- The tables of a bank are in their canonical form. -/
def BankData.canonical (d : BankData) : Bool :=
  Tab.wf .zero d.columnMap && Tab.wf .zero d.chute && Tab.wf .zero d.cls && Tab.wf 0 d.pulse

/-- Every sparse table of the state is in its canonical form. -/
def TablesCanonical (s : State) : Prop :=
  s.banks.x.canonical = true ∧ s.banks.y.canonical = true ∧ Tab.wf [] s.firing.queues = true ∧
    Tab.wf .cold s.nozzles = true ∧ Tab.wf .clear s.notices.records = true ∧ Tab.wf .zero s.tally.sightings = true

/-- Every setting lies in its range, and WIDTH MIN ≤ WIDTH MAX ≤ WIDTH CAP (10.3, R171, R7, R37, R165). -/
def SettingsInRange (s : State) : Prop :=
  s.settings.airTrim ≤ 127 ∧
  (50 ≤ s.clk.period ∧ s.clk.period ≤ 2000) ∧
  (16 ≤ s.settings.maxAge ∧ s.settings.maxAge ≤ 1024) ∧
  (100 ≤ s.settings.leadMin ∧ s.settings.leadMin ≤ 2000) ∧
  (200 ≤ s.settings.widthMin ∧ s.settings.widthMin ≤ 2000) ∧
  s.settings.widthMin ≤ s.settings.widthMax ∧ s.settings.widthMax ≤ s.settings.widthCap ∧
  s.settings.widthMax ≤ 10000 ∧ (2000 ≤ s.settings.widthCap ∧ s.settings.widthCap ≤ 30000) ∧
  (∀ h : Chute, 200 ≤ s.settings.valveGap.get h ∧ s.settings.valveGap.get h ≤ 5000) ∧
  s.settings.replyWait ≤ 3 ∧
  (1 ≤ s.settings.missLimit ∧ s.settings.missLimit ≤ 15) ∧
  (20 ≤ s.settings.windDownLimit ∧ s.settings.windDownLimit ≤ 500) ∧
  (s.settings.group = 0 ∨ (33 ≤ s.settings.group.toNat ∧ s.settings.group.toNat ≤ 62))

/-- The fields of a nozzle record lie in their ranges; a FAILED nozzle has a cause, one IN SERVICE has none (R131, R134,
R138). -/
def NozzleRecord.inRange (r : NozzleRecord) : Prop :=
  (-255 ≤ r.offset ∧ r.offset ≤ 255) ∧ r.latency ≤ 4095 ∧ r.wear ≤ 4294967295 ∧ r.misses ≤ 15 ∧
    r.lastLatency ≤ 4095 ∧ (r.state = .failed → r.cause ≠ .none) ∧ (r.state = .inService → r.cause = .none)

/-- Every nozzle record is in range. -/
def NozzlesInRange (s : State) : Prop := ∀ g, (s.nozzle g).inRange

/-- What is gathered, admitted, held and queued stays within its capacity, HOLD follows the intake, and no two held
entries have the same chute and tag (R10, R13, R17, R61, R80, R87). The table of the queues is in its canonical form
(notes/assumptions/19). -/
def WithinCapacity (s : State) : Prop :=
  Tab.wf [] s.firing.queues = true ∧
  (∀ bytes, s.port.rx = .collecting bytes → bytes.length ≤ 11) ∧
  s.port.intake.length ≤ 64 ∧
  (48 ≤ s.port.intake.length → s.port.hold = true) ∧ (s.port.intake.length ≤ 16 → s.port.hold = false) ∧
  s.verdicts.held.length ≤ 32 ∧
  s.verdicts.held.Pairwise (fun a b => ¬(a.chute = b.chute ∧ a.tag = b.tag)) ∧
  (∀ h : Chute, (s.verdicts.rings.get h).length ≤ 8) ∧
  ∀ g, (s.queue g).length ≤ 8

/-- The sum of the eight outcome counters of a sighting record (11.1). -/
def SightingTally.outcomes (t : SightingTally) : Nat :=
  t.planned + t.merged + t.passed + t.blind + t.untimely + t.crowded + t.dismissed + t.abandoned

/-- No counter of a sighting record has saturated (R183). -/
def SightingTally.unsaturated (t : SightingTally) : Prop := ∀ n ∈ t.list, n < 4294967295

/-- The classes of the pending sightings are classes (R12). -/
def ClassesInRange (s : State) : Prop :=
  (∀ g ∈ s.port.intake, g.cls < 16) ∧ (∀ r, s.planner = some r → r.sighting.cls < 16) ∧
    ∀ e ∈ s.verdicts.held, e.cls < 16

/-- Each sighting record without a saturated counter balances: SEEN equals the outcomes plus the pending sightings
(R183). -/
def TalliesBalance (s : State) : Prop :=
  ClassesInRange s ∧
  ∀ (h : Chute) (k : Nat), k < 16 → (s.tally.sighting h k).unsaturated →
    (s.tally.sighting h k).seen = (s.tally.sighting h k).outcomes + pendingCount s h k

/-- Every started entry has a firing record and no WAITING entry has one; each open count is the number of the chute's
OPENING and OPEN entries; while DRY is set there is no WET record, and while going dry there is one (R94, R106). The
entries of a queue have identities of their own, all given out already. -/
def FiringsAccounted (s : State) : Prop :=
  Tab.wf [] s.firing.queues = true ∧
  (∀ g, ((s.queue g).map (·.ident)).Nodup ∧ ∀ e ∈ s.queue g, e.ident < s.firing.nextIdent ∧
    (e.firing.isSome = true ↔ e.phase ≠ .waiting)) ∧
  (∀ h, s.openCount h = countEntries s h Entry.holdsAir) ∧
  (s.ctl.dry = true → anyWet s = false) ∧ (s.ctl.goingDry = true → anyWet s = true)

/-- No nozzle that is not IN SERVICE has a WAITING entry in its queue (R74). -/
def WaitingInService (s : State) : Prop :=
  Tab.wf [] s.firing.queues = true ∧
  ∀ g, ∀ e ∈ s.queue g, e.phase = .waiting → (s.nozzle g).state = .inService

/-- The wind-down record exists exactly in WIND-DOWN and the purge record exactly in PURGE (R147); outside RUN and
WIND-DOWN no sighting is pending, and in HALT and while held in reset every queue is empty too (R148, R151, R157). A
wind-down has work left (R159), and a warm reset is owed in HALT alone (R162). No request waits at an idle bus (R114,
R115), and each bus carries the commands of its own chute's nozzles alone (R112, R114). -/
def WorkFitsState (s : State) : Prop :=
  (s.ctl.op = .windDown → ¬NothingLeft s) ∧ (s.ctl.resetDue = true → s.ctl.op = .halt) ∧
  (∀ h : Chute,
    ((s.busOf h).inFlight = none → (s.busOf h).closeAll = false ∧ (s.busOf h).requests = []) ∧
    (∀ r ∈ (s.busOf h).requests, chuteOf r.nozzle = h) ∧
    ∀ t, (s.busOf h).inFlight = some t → t.kind ≠ .closeAll → chuteOf t.nozzle = h) ∧
  (s.ctl.windDown.isSome = true ↔ s.ctl.op = .windDown) ∧ (s.ctl.purge.isSome = true ↔ s.ctl.op = .purge) ∧
  (s.ctl.op ≠ .run → s.ctl.op ≠ .windDown → s.port.intake = [] ∧ s.planner = none ∧ s.verdicts.held = []) ∧
  (s.ctl.op = .halt → s.firing.queues = []) ∧
  (s.ctl.rstn = true → s.ctl.op = .standby ∧ s.firing.queues = [])

/-! ### The order of a queue (R61) -/

/-- How far a time lies after a base time. -/
def offsetFrom (base t : Time) : Nat := (t - base).toNat

/-- The firing [c, e) lies in a span of 2^30 µs that begins 5000 µs after the base, with a width from `lo` to `cap`. -/
def FiringFits (base : Time) (lo cap : Nat) (c e : Time) : Prop :=
  5000 ≤ offsetFrom base c ∧ offsetFrom base c + lo ≤ offsetFrom base e ∧
    offsetFrom base e ≤ offsetFrom base c + cap ∧ offsetFrom base e < 1073741824

/-- Every entry fits, and each ends at least the gap before the next one starts (R61). -/
def QueueOrdered (base : Time) (gap lo cap : Nat) (q : List Entry) : Prop :=
  (∀ x ∈ q, FiringFits base lo cap x.start x.stop) ∧
    q.Pairwise fun x y => offsetFrom base x.stop + gap ≤ offsetFrom base y.start

end Sys2Proof.Machine
end

