-- ==== Sys2Proof/Certificates/Slice0/Obligations.lean ====
section
/-! DEFINITION. The statements for the provers, block by block. Where a statement says `conclude`, it names what is judged
at every event that takes entries out of queues: the end of going dry (R106), of a purge (R155) and of a wind-down (R159,
`endWindDown`); WarmResetTakesItsValues says what that is. `grantNext` is the grant of an idle bus in the event that hands a
request over (R114, R115); GrantTakesCloseAllThenCloseThenOpen says what it is. -/

section Statements

open Sys2Proof Sys2Proof.Machine

/-! ### The step and the resets -/

/-- A step takes the command at the front of the queue and runs it on the state with the queue's rest. -/
def Obligations.StepTakesTheFrontCommand : Prop :=
  ∀ (c : Instr) (rest : List Instr) (s : State), s.pending = c :: rest →
    step s = exec c { s with pending := rest }

/-- RSTN low holds every block at its cold reset values, and the end of the cold reset gives the reset state with the
straps, ESTOP and AIRLOW as they then stand, each bus sending its CLOSE ALL on lane A (R148, R6, R25, R26, R96, R112, R114,
R123, R124, R132, R165, R181). That the part keeps its individual address while RSTN is low, and requests no CLOSE ALL before
the reset ends, is the model's reading (notes/assumptions/9). State.reset is the end with all three inputs at 0, the model's
choice (notes/assumptions/8). -/
def Obligations.ColdResetGivesTheResetState : Prop :=
  ∀ s : State, ∃ t : State,
    exec .rstnLow s = .next t ∧
    t = { State.reset with
      pending := s.pending
      clk := { State.reset.clk with lsync := .low }
      bus := PerChute.const ⟨.a, 0, false, [], none⟩
      ctl := { State.reset.ctl with rstn := true }
      link := { State.reset.link with address := s.link.address } } ∧
    (∀ (straps : BitVec 5) (estop airlow : Bool), ∃ u : State,
      exec (.coldResetEnd straps estop airlow) t = .next u ∧
      u.ctl = { State.reset.ctl with op := if estop then .halt else .standby, estop := estop, airlow := airlow } ∧
      u.clk = ⟨0, 0, 0, 125, 125, false, .high 20⟩ ∧
      u.link = ⟨BitVec.ofNat 8 (straps.toNat + 1), none, .hunting, .idle⟩ ∧
      u.bus = PerChute.const ⟨.a, 1, false, [], some ⟨.closeAll, 0, 0, .a, 0, false, none, false⟩⟩ ∧
      (∀ k : NoticeKind, u.notices.record k =
        if (k = .estop ∧ estop = true) ∨ (k = .airLow ∧ airlow = true) then ⟨true, 1, 0⟩ else ⟨false, 0, 0⟩) ∧
      u.notices.armed = true ∧ u.notices.attn = (estop || airlow) ∧
      u = { State.reset with
        pending := s.pending, clk := u.clk, ctl := u.ctl, link := u.link, bus := u.bus, notices := u.notices }) ∧
    exec (.coldResetEnd 0 false false) t = .next { State.reset with pending := s.pending }

/-- While RSTN is held low no frame, record, reply or event of the part's own changes anything, and when it is not held low
no cold reset ends (R148). On an empty queue the part takes one of its own events that are due, the first in the model's fixed
order (notes/assumptions/2), or with none due lets one microsecond pass (notes/assumptions/1); while it is held in reset it
does nothing (R1, R2, R148). The events that are due are exactly those whose time has come or whose condition holds (R4, R86,
R97, R103, R115, R119, R154, R160, R170). -/
def Obligations.NothingReachesAPartInReset : Prop :=
  ∀ s : State,
    (s.ctl.rstn = true → ∀ c : Instr, c ≠ .rstnLow → (∀ straps estop airlow, c ≠ .coldResetEnd straps estop airlow) →
      exec c s = .next s) ∧
    (s.ctl.rstn = false → ∀ straps estop airlow, exec (.coldResetEnd straps estop airlow) s = .next s) ∧
    (s.pending = [] →
      (s.ctl.rstn = true → step s = .next s) ∧
      (s.ctl.rstn = false →
        (∀ (c : Instr) (others : List Instr), dueEvents s = c :: others → step s = exec c s) ∧
        (dueEvents s = [] → step s = .next { s with clk := { s.clk with now := s.clk.now + 1 } }))) ∧
    ∀ c : Instr, c ∈ dueEvents s ↔ DueNow s c

/-! ### Line clock and table banks -/

/-- When its time has come and no restart is pending, the pulse begins the next line; before its time nothing happens. A
pulse that is over returns LSYNC low (R3, R4). With no swap pending and no settle running the pulse changes the line clock
alone. LSYNC is high during a pulse, and after a pulse cut short only from the time its mark pulse begins (R6). -/
def Obligations.PulseBeginsTheNextLine : Prop :=
  ∀ s : State, Awake s →
    (due s.clk.nextPulse s.clk.now = true → s.clk.pendingRestart = false → ∃ t : State,
      exec .lsyncPulse s = .next t ∧
      t.clk = { s.clk with
        line := s.clk.line + 1
        lineStart := s.clk.now
        nextPulse := s.clk.now + BitVec.ofNat 32 s.clk.period
        lsync := .high (s.clk.now + if s.clk.line + 1 = 0 then 20 else 4) } ∧
      (s.banks.pendingSwap = none → s.banks.lastSwap = none → t = { s with clk := t.clk })) ∧
    (due s.clk.nextPulse s.clk.now = false → exec .lsyncPulse s = .next s) ∧
    (s.clk.lsync = .low → s.clk.lsyncHigh = false ∧ exec .lsyncPulseEnd s = .next s) ∧
    (∀ rise stop, s.clk.lsync = .high stop ∨ s.clk.lsync = .cut rise stop →
      (s.clk.lsyncHigh = true ↔ s.clk.lsync = .high stop ∨ due rise s.clk.now = true) ∧
      exec .lsyncPulseEnd s = .next
        (if due stop s.clk.now then { s with clk := { s.clk with lsync := .low } } else s))

/-- At the pulse that begins the pending swap line the bank roles exchange, the settle begins, BANK SWAPPED is set and the
window is closed; at any other pulse a settle whose line is older than MAX AGE ends, unless the planner holds it open, the bank
being taken as STAGING by its role at the pulse (the model's reading, notes/assumptions/15); the pulse of a LINE PERIOD restart
begins line 0 and removes both (R7, R32, R33, R34). -/
def Obligations.SwapSettleAndRestartAtAPulse : Prop :=
  ∀ s : State, Awake s → due s.clk.nextPulse s.clk.now = true →
    (s.clk.pendingRestart = false → s.banks.pendingSwap = some (s.clk.line + 1) → ∃ t : State,
      exec .lsyncPulse s = .next t ∧
      t.banks = { s.banks with
        working := otherBank s.banks.working
        pendingSwap := none
        lastSwap := some (s.clk.line + 1)
        settleHeld := false } ∧
      t.link = { s.link with window := none } ∧
      t.notices = s.notices.set s.settings.noticeMask .bankSwapped none ∧
      t = { s with clk := t.clk, banks := t.banks, link := t.link, notices := t.notices }) ∧
    (s.clk.pendingRestart = false → s.banks.pendingSwap ≠ some (s.clk.line + 1) → ∀ ls, s.banks.lastSwap = some ls →
      ∃ t : State, exec .lsyncPulse s = .next t ∧
      t.banks =
        (if s.settings.maxAge < (s.clk.line + 1 - ls).toNat then
          if planningOnStaging s then { s.banks with settleHeld := true }
          else { s.banks with lastSwap := none, settleHeld := false }
        else s.banks) ∧
      t = { s with clk := t.clk, banks := t.banks }) ∧
    (s.clk.pendingRestart = true → exec .lsyncPulse s = .next { s with
      clk := { s.clk with
        line := 0
        lineStart := s.clk.now
        nextPulse := s.clk.now + BitVec.ofNat 32 s.clk.period
        pendingRestart := false
        lsync := .high (s.clk.now + 20) }
      banks := { s.banks with pendingSwap := none, lastSwap := none, settleHeld := false } })

/-! ### Sighting port -/

/-- A sighting record with a good check is admitted in RUN with room, dropped in RUN without, and refused in every other
state; HOLD follows the intake (R10 to R14, R17). -/
def Obligations.SightingIsAdmittedDroppedOrRefused : Prop :=
  ∀ (s : State) (bytes : List Byte) (g : Sighting), Awake s → s.port.rx = .collecting [] →
    decodeRecord bytes = .sighting g →
    exec (.sightingRecord bytes) s = .next
      (if s.ctl.op = .run then
        if s.port.intake.length < 64 then
          { s with
            port := { s.port with
              intake := s.port.intake ++ [g]
              hold := if 48 ≤ s.port.intake.length + 1 then true
                else if s.port.intake.length + 1 ≤ 16 then false else s.port.hold }
            tally := s.tally.countSighting g.chute g.cls .seen }
        else
          { s with
            tally := s.tally.countChute g.chute .overflow 1
            notices := s.notices.set s.settings.noticeMask .intakeOverflow (some g.chute) }
      else { s with tally := s.tally.countChute g.chute .refused 1 })

/-- A verdict in RUN or WIND-DOWN settles the held entry of its chute and tag, with which a wind-down may be over, or is
counted LATE or UNKNOWN by the expired-tag ring; in every other state it is UNKNOWN (R83, R84, R85, R88, R159). -/
def Obligations.VerdictSettlesItsEntry : Prop :=
  ∀ (s : State) (bytes : List Byte) (h : Chute) (tag : Byte) (confirm : Bool), Awake s →
    s.port.rx = .collecting [] → decodeRecord bytes = .verdict h tag confirm →
    ((s.ctl.op = .run ∨ s.ctl.op = .windDown) →
      (∀ (before after : List HeldEntry) (e : HeldEntry), s.verdicts.held = before ++ e :: after →
        (∀ x ∈ before, ¬(x.chute = h ∧ x.tag = tag)) → e.chute = h → e.tag = tag →
        exec (.verdictRecord bytes) s = .next (endWindDown
          (let s' := { s with verdicts := { s.verdicts with held := before ++ after } }
           if confirm then placeAndCount h e.cls e.prio e.plan s'
           else { s' with tally := s.tally.countSighting h e.cls .dismissed }))) ∧
      ((∀ x ∈ s.verdicts.held, ¬(x.chute = h ∧ x.tag = tag)) →
        (∀ older newer : List Byte, s.verdicts.rings.get h = older ++ tag :: newer → tag ∉ newer →
          exec (.verdictRecord bytes) s = .next { s with
            verdicts := { s.verdicts with rings := s.verdicts.rings.set h (older ++ newer) }
            tally := s.tally.countChute h .verdictsLate 1 }) ∧
        (tag ∉ s.verdicts.rings.get h →
          exec (.verdictRecord bytes) s = .next { s with tally := s.tally.countChute h .verdictsUnknown 1 }))) ∧
    (s.ctl.op ≠ .run → s.ctl.op ≠ .windDown →
      exec (.verdictRecord bytes) s = .next { s with tally := s.tally.countChute h .verdictsUnknown 1 })

/-- A rejected record and a partial record are link errors; a record with a bad check or an unknown kind leaves the
receiver RESYNCING, where bytes are discarded until the link has been idle (R10, R11). A record's twelve bytes are read by the
layout of 12.2 with its CRC-8, a sighting's columns and size as corrected at decode (R12, R15, R185, R187). A
RESYNC_IDLE_TIMEOUT of a receiver that is not RESYNCING does nothing (notes/assumptions/3). -/
def Obligations.RejectedRecordsAreLinkErrors : Prop :=
  (∀ s : State, Awake s →
    (s.port.rx = .collecting [] →
      (∀ bytes : List Byte, bytes.length = 12 → decodeRecord bytes = .bad →
        exec (.sightingRecord bytes) s = .next (linkErrorWith .resyncing s) ∧
        exec (.verdictRecord bytes) s = .next (linkErrorWith .resyncing s)) ∧
      (∀ bytes : List Byte, decodeRecord bytes = .badCode →
        exec (.verdictRecord bytes) s = .next (linkErrorWith (.collecting []) s)) ∧
      (∀ bytes : List Byte, 1 ≤ bytes.length → bytes.length ≤ 11 →
        exec (.partialRecordTimeout bytes) s = .next (linkErrorWith (.collecting []) s))) ∧
    (s.port.rx = .resyncing →
      (∀ bytes : List Byte, exec (.sightingRecord bytes) s = .next s ∧ exec (.verdictRecord bytes) s = .next s) ∧
      exec .resyncIdleTimeout s = .next { s with port := { s.port with rx := .collecting [] } }) ∧
    (s.port.rx ≠ .resyncing → exec .resyncIdleTimeout s = .next s)) ∧
  (∀ bytes : List Byte, bytes.length ≠ 12 → decodeRecord bytes = .bad) ∧
  (∀ bytes : List Byte, crc8 bytes = bytes.foldl (fun c b =>
    (List.range 8).foldl (fun c _ => if c.msb then (c <<< 1) ^^^ 0x07#8 else c <<< 1) (c ^^^ b)) 0xFF#8) ∧
  ∀ b0 b1 b2 b3 b4 b5 b6 b7 b8 b9 b10 b11 : Byte,
    let record := decodeRecord [b0, b1, b2, b3, b4, b5, b6, b7, b8, b9, b10, b11]
    let good := crc8 [b0, b1, b2, b3, b4, b5, b6, b7, b8, b9, b10] = b11
    let columns := b5.toNat * 65536 + b6.toNat * 256 + b7.toNat
    let first := min 639 (columns / 16384)
    let last := min 639 (columns / 16 % 1024)
    ((¬good ∨ (b0 ≠ 0x53 ∧ b0 ≠ 0x56)) → record = .bad) ∧
    (good → b0 = 0x53 → ∃ g : Sighting, record = .sighting g ∧ g.chute.val = b1.toNat / 64 ∧
      (g.side = .rear ↔ b1.getLsbD 5 = true) ∧ g.cls = b1.toNat % 16 ∧ g.tag = b2 ∧ g.stamp.toNat = num16 b3 b4 ∧
      g.c0 = min first last ∧ g.c1 = max first last ∧ g.size = max 1 (num16 b8 b9 % 4096) ∧ g.conf = b10.toNat) ∧
    (good → b0 = 0x56 → ∃ h : Chute, h.val = b1.toNat / 64 ∧
      record = if b3 = 1 then .verdict h b2 true else if b3 = 2 then .verdict h b2 false else .badCode)

/-! ### Planner -/

/-- An idle planner takes the oldest sighting; the age step keeps the pair N, T(N) and the age, or ends a sighting older
than MAX AGE as UNTIMELY (R17, R18, R38, R41). An ending discards the planning record, releases the bank, with which a held
settle is over, and counts the outcome (R33, R40, R42, R58); it may end a wind-down (R159). The record taken holds its sighting,
with the age step to come first; the command of a take or step that is not the one to come does nothing. That the take is an
event of its own, that such a command does nothing, and what the record's other fields hold meanwhile, are the model's readings
(notes/assumptions/31, 3 and 28). -/
def Obligations.PlannerTakesTheOldestAndAgesIt : Prop :=
  ∀ s : State, Awake s →
    (∀ (g : Sighting) (rest : List Sighting), s.planner = none → s.port.intake = g :: rest →
      exec .plannerTake s = .next { s with
        port := { s.port with
          intake := rest
          hold := if 48 ≤ rest.length then true else if rest.length ≤ 16 then false else s.port.hold }
        planner := some (PlanRecord.start g) }) ∧
    (∀ g : Sighting, (PlanRecord.start g).sighting = g ∧ (PlanRecord.start g).next = .age) ∧
    (s.planner ≠ none ∨ s.port.intake = [] → exec .plannerTake s = .next s) ∧
    (∀ x ∈ [(Instr.ageStep, PlanStep.age), (.bankStep, .bank), (.bandStep, .band), (.nozzleSetStep, .nozzleSet),
        (.sizeBandStep, .sizeBand), (.widthStep, .width), (.flightStep, .flight), (.seenTimeStep, .seenTime),
        (.perNozzleTimesStep, .times), (.leadStep, .lead), (.confidenceStep, .confidence), (.placement, .placement)],
      (∀ r, s.planner = some r → r.next ≠ x.2) → exec x.1 s = .next s) ∧
    (∀ r : PlanRecord, s.planner = some r → r.next = .age →
      exec .ageStep s = .next
        (if s.settings.maxAge < (s.clk.line - r.sighting.stamp).toNat then endWindDown (endWith r.sighting .untimely s)
        else { s with planner := some { r with
          pairLine := s.clk.line
          pairTime := s.clk.lineStart
          age := (s.clk.line - r.sighting.stamp).toNat
          next := .bank } })) ∧
    endPlanning s = { s with
      planner := none
      banks := { s.banks with
        lastSwap := if s.banks.settleHeld then none else s.banks.lastSwap
        settleHeld := false } } ∧
    ∀ (g : Sighting) (outcome : SightingCounter),
      endWith g outcome s = { endPlanning s with tally := s.tally.countSighting g.chute g.cls outcome }

/-- The bank step fixes the bank that was WORKING when the sighting's line began, and the band step clips the sighting's
columns to the band of its CHUTE entry, with none looked up yet, or ends it BLIND (R36, R42, R43). -/
def Obligations.BankAndBandAreFixed : Prop :=
  ∀ (s : State) (r : PlanRecord), Awake s → s.planner = some r →
    (r.next = .bank → exec .bankStep s = .next { s with planner := some { r with
      bank := some (match s.banks.lastSwap with
        | none => s.banks.working
        | some ls =>
          if s.settings.maxAge < (r.pairLine - ls).toNat ∨ (r.pairLine - ls).toNat < r.age then
            otherBank s.banks.working
          else s.banks.working)
      next := .band } }) ∧
    (∀ b : Bank, r.next = .band → r.bank = some b →
      exec .bandStep s = .next
        (let e := Tab.get ChuteEntry.zero (s.banks.data b).chute r.sighting.chute.val
         if min r.sighting.c1 e.bandLast < max r.sighting.c0 e.bandFirst then
           endWindDown (endWith r.sighting .blind s)
         else { s with planner := some { r with
           c0 := max r.sighting.c0 e.bandFirst
           c1 := min r.sighting.c1 e.bandLast
           column := max r.sighting.c0 e.bandFirst
           served := []
           next := .nozzleSet } }))

/-- The nozzle-set step: a column's effective nozzle is its primary in service, else its alternate in service, as the
states stand when the column is looked up; each command of the step looks up one column (the model's form,
notes/assumptions/34), and so many in a row look up so many columns. With the last column, a sighting with no effective nozzle ends BLIND; else the nozzles that serve most
columns, at most four and the lower number on a tie, are kept with their column counts, in order of nozzle number (the model's
choice, notes/assumptions/14), and CLIPPED is counted when some are not kept (R44, R45, R46). -/
def Obligations.NozzleSetKeepsTheFourGreatest : Prop :=
  ∀ (s : State) (r : PlanRecord) (b : Bank), Awake s → s.planner = some r → r.next = .nozzleSet → r.bank = some b →
    let h := r.sighting.chute
    let found := fun n => r.served ++ (List.range' r.column n).filterMap (effectiveNozzle s (s.banks.data b) h)
    let served := found 1
    let members := (List.range 40).filter fun n => served.contains n
    (∀ c n, effectiveNozzle s (s.banks.data b) h c = some n ↔ Serves s b h c n) ∧
    (r.column < r.c1 → exec .nozzleSetStep s = .next
      { s with planner := some { r with column := r.column + 1, served := served } }) ∧
    (∀ n, r.column + n ≤ r.c1 → execAll (List.replicate n .nozzleSetStep) s = .next
      { s with planner := some { r with column := r.column + n, served := found n } }) ∧
    (r.column = r.c1 →
      (members = [] → exec .nozzleSetStep s = .next (endWindDown (endWith r.sighting .blind s))) ∧
      (members ≠ [] → ∃ l : List PlanNozzle,
        exec .nozzleSetStep s = .next
          { (if 4 < members.length then countSighting h r.sighting.cls .clipped s else s) with
            planner := some { r with column := r.c1 + 1, served := served, nozzles := l, next := .sizeBand } } ∧
        l.Pairwise (fun p q => p.num < q.num) ∧
        (∀ p ∈ l, p.num ∈ members ∧ p.columns = served.count p.num) ∧
        l.length = min 4 members.length ∧
        ∀ n ∈ members, (∀ p ∈ l, p.num ≠ n) →
          ∀ p ∈ l, served.count n < p.columns ∨ (served.count n = p.columns ∧ p.num < n)))

/-- The size band follows the table of R47; the width step ends a sighting of width 0 as PASSED and otherwise trims the
width by AIR TRIM, rounded half up, and clamps it (R47, R48, R49). -/
def Obligations.SizeBandAndTrimmedWidth : Prop :=
  ∀ (s : State) (r : PlanRecord), Awake s → s.planner = some r →
    (r.next = .sizeBand → 1 ≤ r.sighting.size → r.sighting.size ≤ 4095 →
      exec .sizeBandStep s = .next { s with planner := some { r with
        band := if r.sighting.size ≤ 3 then 0 else if r.sighting.size ≤ 7 then 1 else if r.sighting.size ≤ 15 then 2
          else if r.sighting.size ≤ 31 then 3 else if r.sighting.size ≤ 63 then 4 else if r.sighting.size ≤ 127 then 5
          else if r.sighting.size ≤ 255 then 6 else 7
        next := .width } }) ∧
    (∀ b : Bank, r.next = .width → r.bank = some b → s.settings.widthMin ≤ s.settings.widthMax →
      exec .widthStep s = .next
        (let w := Tab.get 0 (s.banks.data b).pulse (r.sighting.cls * 8 + r.band)
         if w = 0 then endWindDown (endWith r.sighting .passed s)
         else { s with planner := some { r with
           width := max s.settings.widthMin
             (min s.settings.widthMax ((w * (64 + s.settings.airTrim) + 64) / 128))
           next := .flight } }))

/-- The flight time, the seen time, and each nozzle's arrival, command time and end time (R50, R51, R52, R9). -/
def Obligations.FlightSeenAndNozzleTimes : Prop :=
  ∀ (s : State) (r : PlanRecord) (b : Bank), Awake s → s.planner = some r → r.bank = some b →
    let e := Tab.get ChuteEntry.zero (s.banks.data b).chute r.sighting.chute.val
    (r.next = .flight → exec .flightStep s = .next { s with planner := some { r with
      flight := (max 0 (((e.flight : Int) * (4096 + e.trim) + 2048) / 4096
        + (Tab.get ClassEntry.zero (s.banks.data b).cls r.sighting.cls).offset)).toNat
      next := .seenTime } }) ∧
    (r.next = .seenTime → exec .seenTimeStep s = .next { s with planner := some { r with
      seen := r.pairTime
        - BitVec.ofInt 32 (((r.age : Int) + if r.sighting.side = .rear then e.lag else 0) * s.clk.period)
        + BitVec.ofNat 32 (s.clk.period / 2)
      next := .times } }) ∧
    (r.next = .times → exec .perNozzleTimesStep s = .next { s with planner := some { r with
      nozzles := r.nozzles.map fun p =>
        let n := s.nozzle (r.sighting.chute.val * 40 + p.num)
        let arrival := r.seen + BitVec.ofNat 32 r.flight + BitVec.ofInt 32 n.offset
        let command := arrival - BitVec.ofNat 32 n.latency - BitVec.ofNat 32 (r.width / 2)
        { p with arrival := arrival, command := command, stop := command + BitVec.ofNat 32 r.width }
      next := .lead } })

/-- The lead step marks late each nozzle whose signed lead is below LEAD MIN and ends the sighting UNTIMELY when every
nozzle is late (R53). -/
def Obligations.LeadStepDropsLateNozzles : Prop :=
  ∀ (s : State) (r : PlanRecord), Awake s → s.planner = some r → r.next = .lead →
    exec .leadStep s = .next
      (if ∀ p ∈ r.nozzles, (p.command - s.clk.now).toInt < s.settings.leadMin then
        endWindDown (endWith r.sighting .untimely s)
      else { s with planner := some { r with
        nozzles := r.nozzles.map fun p =>
          { p with late := decide ((p.command - s.clk.now).toInt < s.settings.leadMin) }
        next := .confidence } })

/-- The confidence step goes on to placement, or hands the sighting over: settled at once when its deadline has come,
resolved at once as a duplicate or on a full list, else held, in order of deadline and after the entries of an equal one (R54,
R80, R81, R82, R86, R87). A hand-over that leaves nothing of a wind-down's work ends it (R159). -/
def Obligations.ConfidenceStepPlacesOrHandsOver : Prop :=
  ∀ (s : State) (r : PlanRecord) (b : Bank), Awake s → s.planner = some r → r.next = .confidence → r.bank = some b →
    let e := Tab.get ClassEntry.zero (s.banks.data b).cls r.sighting.cls
    let h := r.sighting.chute
    let plan := (r.nozzles.filter fun p => !p.late).map fun p => (⟨h.val * 40 + p.num, p.command, p.stop⟩ : PlanFiring)
    let x : HeldEntry :=
      ⟨h, r.sighting.tag, r.sighting.cls, e.prio, e.policy, plan,
        earliestCommand plan - BitVec.ofNat 32 s.settings.leadMin⟩
    let u := endPlanning s
    let settled := countSighting h x.cls .defaulted
    let policy := fun t : State =>
      match e.policy with
      | .fire => placeAndCount h x.cls x.prio x.plan t
      | .pass => countSighting h x.cls .dismissed t
    (e.threshold ≤ r.sighting.conf → exec .confidenceStep s = .next { s with planner := some { r with
      prio := e.prio, threshold := e.threshold, policy := e.policy, next := .placement } }) ∧
    (r.sighting.conf < e.threshold →
      (before s.clk.now x.deadline = false → exec .confidenceStep s = .next (endWindDown
        (policy (settled { u with verdicts := { u.verdicts with
          rings := u.verdicts.rings.set h (pushRing x.tag (u.verdicts.rings.get h)) } })))) ∧
      (before s.clk.now x.deadline = true →
        ((∃ y ∈ s.verdicts.held, y.chute = h ∧ y.tag = x.tag) → exec .confidenceStep s = .next (endWindDown
          (policy (settled (countChute h .duplicateTags u))))) ∧
        ((∀ y ∈ s.verdicts.held, ¬(y.chute = h ∧ y.tag = x.tag)) →
          (32 ≤ s.verdicts.held.length → exec .confidenceStep s = .next (endWindDown
            (policy (settled (setNotice .heldFull (some h) u))))) ∧
          (s.verdicts.held.length < 32 → ∃ earlier later : List HeldEntry,
            s.verdicts.held = earlier ++ later ∧
            (∀ y ∈ earlier, before x.deadline y.deadline = false) ∧
            (∀ y ∈ later.head?, before x.deadline y.deadline = true) ∧
            exec .confidenceStep s = .next
              { u with verdicts := { u.verdicts with held := earlier ++ x :: later } })))) ∧
    (∀ (tag : Byte) (ring : List Byte),
      pushRing tag ring = (if 8 ≤ ring.length then ring.drop 1 else ring) ++ [tag]) ∧
    ∀ (f : PlanFiring) (fs : List PlanFiring),
      earliestCommand (f :: fs) = fs.foldl (fun t y => if before y.command t then y.command else t) f.command

/-- A placement ends planning, places its plan firing by firing and counts the first outcome that the results give; a
nozzle out of service is blind, one short of LEAD MIN is late, any other is offered its firing (R55, R56). It may end a
wind-down (R159). -/
def Obligations.PlacementCountsItsOutcome : Prop :=
  (∀ (s : State) (r : PlanRecord), Awake s → s.planner = some r → r.next = .placement →
    let h := r.sighting.chute
    let plan := (r.nozzles.filter fun p => !p.late).map fun p => (⟨h.val * 40 + p.num, p.command, p.stop⟩ : PlanFiring)
    exec .placement s = .next (endWindDown (placeAndCount h r.sighting.cls r.prio plan (endPlanning s)))) ∧
  (∀ (u : State) (h : Chute) (k prio : Nat) (plan : List PlanFiring), ∃ (t : State) (results : List PlaceResult),
    placePlan prio plan u = (t, results) ∧ results.length = plan.length ∧
    placeAndCount h k prio plan u = countSighting h k
      (if PlaceResult.created ∈ results then .planned
      else if PlaceResult.merged ∈ results then .merged
      else if PlaceResult.crowded ∈ results then .crowded
      else if PlaceResult.late ∈ results then .untimely
      else .blind) t) ∧
  ∀ (u : State) (prio : Nat) (f : PlanFiring) (fs : List PlanFiring),
    placePlan prio [] u = (u, []) ∧
    (∀ (v t : State) (result : PlaceResult) (results : List PlaceResult), placeOne prio u f = (v, result) →
      placePlan prio fs v = (t, results) → placePlan prio (f :: fs) u = (t, result :: results)) ∧
    ((u.nozzle f.nozzle).state ≠ .inService → placeOne prio u f = (u, .blind)) ∧
    ((u.nozzle f.nozzle).state = .inService →
      ((f.command - u.clk.now).toInt < u.settings.leadMin → placeOne prio u f = (u, .late)) ∧
      ((u.settings.leadMin : Int) ≤ (f.command - u.clk.now).toInt →
        let offered := offer f.nozzle f.command f.stop prio .sighting u
        (placeOne prio u f).1 = offered.1 ∧
        ((placeOne prio u f).2 = .created ↔ ∃ i, offered.2 = .created i) ∧
        ((placeOne prio u f).2 = .merged ↔ ∃ i, offered.2 = .merged i) ∧
        ((placeOne prio u f).2 = .crowded ↔ offered.2 = .crowded)))

/-! ### Nozzle queues -/

/-- An offer's answer: blind out of service; created in order where nothing touches and the queue has room; crowded on a
full queue, on a CLOSING or a second started touching entry, or past WIDTH CAP; else merged into the earliest touching entry,
which takes the earliest start unless it has started, the latest end and the highest priority, the others being absorbed (R65,
R66, R67, R68). An entry that absorbed one of the purge set is in the set (R155). Nothing but the nozzle's queue, the next
identity and the purge set changes. -/
def Obligations.OfferIsAnsweredByTheTouchTest : Prop :=
  ∀ (s : State) (g prio : Nat) (c e : Time) (o : Origin),
    let gap := BitVec.ofNat 32 (s.settings.valveGap.get (chuteOf g))
    let touching := (s.queue g).filter fun y =>
      (y.start - gap == e || before (y.start - gap) e) && (c == y.stop + gap || before c (y.stop + gap))
    ((s.nozzle g).state ≠ .inService → offer g c e prio o s = (s, .blind)) ∧
    ((s.nozzle g).state = .inService →
      (touching = [] → 8 ≤ (s.queue g).length → offer g c e prio o s = (s, .crowded)) ∧
      (touching = [] → (s.queue g).length < 8 → ∃ (t : State) (earlier later : List Entry),
        offer g c e prio o s = (t, .created s.firing.nextIdent) ∧
        s.queue g = earlier ++ later ∧
        (∀ y ∈ earlier, before c y.start = false) ∧ (∀ y ∈ later.head?, before c y.start = true) ∧
        t.queue g = earlier ++ ⟨s.firing.nextIdent, c, e, prio, o, .waiting, none⟩ :: later ∧
        (∀ g', g' ≠ g → t.queue g' = s.queue g') ∧
        t = { s with firing := { s.firing with queues := t.firing.queues, nextIdent := s.firing.nextIdent + 1 } }) ∧
      (∀ (y : Entry) (others : List Entry), touching = y :: others →
        let merged : Entry := { y with
          start := if y.phase = .waiting then
              others.foldl (fun t x => if before x.start t then x.start else t) (if before c y.start then c else y.start)
            else y.start
          stop := others.foldl (fun t x => if before t x.stop then x.stop else t) (if before y.stop e then e else y.stop)
          prio := others.foldl (fun n x => max n x.prio) (max y.prio prio) }
        ((∃ x ∈ touching, x.phase = .closing) → offer g c e prio o s = (s, .crowded)) ∧
        ((∃ x ∈ others, x.phase ≠ .waiting) → offer g c e prio o s = (s, .crowded)) ∧
        (s.settings.widthCap < (merged.stop - merged.start).toNat → offer g c e prio o s = (s, .crowded)) ∧
        ((∀ x ∈ touching, x.phase ≠ .closing) → (∀ x ∈ others, x.phase = .waiting) →
          (merged.stop - merged.start).toNat ≤ s.settings.widthCap →
          ∃ t : State, offer g c e prio o s = (t, .merged y.ident) ∧
            t.queue g = ((s.queue g).filter fun x => !(others.any fun z => z.ident == x.ident)).map
              (fun x => if x.ident = y.ident then merged else x) ∧
            (∀ g', g' ≠ g → t.queue g' = s.queue g') ∧
            (s.ctl.purge = none → t.ctl.purge = none) ∧
            (∀ p, s.ctl.purge = some p → ∃ set, t.ctl.purge = some { p with set := set } ∧
              ∀ x, x ∈ set ↔ (x ∈ p.set ∧ ¬(x.1 = g ∧ ∃ z ∈ others, z.ident = x.2)) ∨
                (x = (g, y.ident) ∧ ∃ z ∈ others, (g, z.ident) ∈ p.set)) ∧
            t = { s with
              firing := { s.firing with queues := t.firing.queues }
              ctl := { s.ctl with purge := t.ctl.purge } })))

/-- An offer keeps R61: with every entry and the firing offered inside one span of 2^30 µs, the entries stay in order, each
ends at least the gap before the next one starts, each width stays within its bounds, and there are at most eight. -/
def Obligations.OfferKeepsTheQueueOrdered : Prop :=
  ∀ (s t : State) (g prio lo : Nat) (base c e : Time) (o : Origin) (answer : OfferResult),
    let gap := s.settings.valveGap.get (chuteOf g)
    gap ≤ 5000 → 1 ≤ lo → (s.queue g).length ≤ 8 → ((s.queue g).map (·.ident)).Nodup →
    QueueOrdered base gap lo s.settings.widthCap (s.queue g) → FiringFits base lo s.settings.widthCap c e →
    offer g c e prio o s = (t, answer) →
    QueueOrdered base gap lo s.settings.widthCap (t.queue g) ∧ (t.queue g).length ≤ 8

/-! ### Held list -/

/-- A held entry whose deadline has come leaves the list, counts DEFAULTED, pushes its tag into its chute's ring of eight,
and has its default policy applied, with which a wind-down may be over; before its deadline, and for an
entry that is not held, nothing happens (R86, R87, R159; notes/assumptions/3). -/
def Obligations.DeadlineSettlesTheHeldEntry : Prop :=
  (∀ (s : State) (before after : List HeldEntry) (e : HeldEntry), Awake s →
    s.verdicts.held = before ++ e :: after → (∀ x ∈ before, ¬(x.chute = e.chute ∧ x.tag = e.tag)) →
    (due e.deadline s.clk.now = true → exec (.deadlineExpiry e.chute e.tag) s = .next (endWindDown
      (let ring := s.verdicts.rings.get e.chute
       let s' : State := { s with
         verdicts := {
           held := before ++ after
           rings := s.verdicts.rings.set e.chute ((if 8 ≤ ring.length then ring.drop 1 else ring) ++ [e.tag]) }
         tally := s.tally.countSighting e.chute e.cls .defaulted }
       match e.policy with
       | .fire => placeAndCount e.chute e.cls e.prio e.plan s'
       | .pass => { s' with tally := s'.tally.countSighting e.chute e.cls .dismissed }))) ∧
    (due e.deadline s.clk.now = false → exec (.deadlineExpiry e.chute e.tag) s = .next s)) ∧
  ∀ (s : State) (h : Chute) (tag : Byte), Awake s → (∀ x ∈ s.verdicts.held, ¬(x.chute = h ∧ x.tag = tag)) →
    exec (.deadlineExpiry h tag) s = .next s

/-! ### Dispatchers -/

/-- A start below the effective air cap: WET asks for its OPEN and becomes OPENING; while going dry or DRY it becomes OPEN
at once and is counted DRY FIRINGS. The open count rises by one, and an idle bus grants in the same event. On a queue with no
WAITING entry whose start has come nothing happens (R63, R95, R97, R108, R114, R115; notes/assumptions/3). -/
def Obligations.StartBelowTheCapIsAdmitted : Prop :=
  (∀ (s : State) (g : Nat) (earlier later : List Entry) (x : Entry), Awake s →
    s.queue g = earlier ++ x :: later → ((s.queue g).map (·.ident)).Nodup →
    (∀ y ∈ earlier, ¬(y.phase = .waiting ∧ due y.start s.clk.now = true)) →
    x.phase = .waiting → due x.start s.clk.now = true → s.openCount (chuteOf g) < airNow s (chuteOf g) →
    exec (.entryStart g) s = .next (conclude (grantNext (chuteOf g)
      (let h := chuteOf g
       let dry := s.ctl.goingDry || s.ctl.dry
       let x' : Entry := if dry then { x with phase := .opened, firing := some ⟨.dry, .none, .none⟩ }
         else { x with phase := .opening, firing := some ⟨.wet, .waiting, .none⟩ }
       { s with
         firing := { s.firing with
           queues := Tab.set [] s.firing.queues g (earlier ++ x' :: later)
           openCount := s.firing.openCount.set h (s.openCount h + 1) }
         bus := if dry then s.bus
           else s.bus.set h { s.busOf h with requests := (s.busOf h).requests ++ [⟨true, g, x.ident, x.start⟩] }
         tally := if dry then s.tally.countChute h .dryFirings 1 else s.tally })))) ∧
  ∀ (s : State) (g : Nat), Awake s → (∀ e ∈ s.queue g, ¬(e.phase = .waiting ∧ due e.start s.clk.now = true)) →
    exec (.entryStart g) s = .next s

/-- A start above the effective air cap is starved. A start at the cap cuts the victim when its priority is strictly
higher, and is starved when it is not; the victim has the lowest priority, then the latest end, then the lowest nozzle. A DRY
victim leaves its queue; a WET one becomes CLOSING with a CLOSE due now, its waiting OPEN withdrawn. The start is then admitted,
and an idle bus grants in the same event (R72, R73, R97, R98, R99, R105, R114, R115). A withdrawn OPEN leaves its request NONE,
the model's choice (notes/assumptions/32). -/
def Obligations.StartAtTheCapCutsOrStarves : Prop :=
  ∀ (s : State) (g : Nat) (earlier later : List Entry) (x : Entry), Awake s →
    s.queue g = earlier ++ x :: later → ((s.queue g).map (·.ident)).Nodup →
    (∀ y ∈ earlier, ¬(y.phase = .waiting ∧ due y.start s.clk.now = true)) →
    x.phase = .waiting → due x.start s.clk.now = true →
    let h := chuteOf g
    let starved := conclude (grantNext h { s with
      firing := { s.firing with queues := Tab.set [] s.firing.queues g (earlier ++ later) }
      tally := s.tally.countChute h .starved 1 })
    (airNow s h < s.openCount h → exec (.entryStart g) s = .next starved) ∧
    (s.openCount h = airNow s h → ∀ (gv : Nat) (v : Entry), (gv, v) ∈ holders s h →
      (∀ w ∈ holders s h, w ≠ (gv, v) → v.prio < w.2.prio ∨
        (v.prio = w.2.prio ∧ (before w.2.stop v.stop = true ∨ (w.2.stop = v.stop ∧ gv < w.1)))) →
      (x.prio ≤ v.prio → exec (.entryStart g) s = .next starved) ∧
      (v.prio < x.prio →
        let openReq := (v.firing.map (·.openReq)).getD .none
        let cut : State := match v.kind with
          | .dry => { s with
            firing := { s.firing with
              queues := Tab.set [] s.firing.queues gv ((s.queue gv).filter fun e => e.ident != v.ident)
              openCount := s.firing.openCount.set h (s.openCount h - 1) }
            tally := s.tally.countChute h .cut 1 }
          | .wet => { s with
            firing := { s.firing with
              queues := Tab.set [] s.firing.queues gv ((s.queue gv).map fun e =>
                if e.ident = v.ident then { e with
                  phase := .closing
                  firing := some ⟨.wet, if openReq = .waiting then .none else openReq, .waiting⟩ }
                else e)
              openCount := s.firing.openCount.set h (s.openCount h - 1) }
            bus := s.bus.set h { s.busOf h with
              requests := (if openReq = .waiting then (s.busOf h).requests.filter fun q =>
                  !(q.isOpen && q.nozzle == gv && q.ident == v.ident)
                else (s.busOf h).requests) ++ [⟨false, gv, v.ident, s.clk.now⟩] }
            tally := s.tally.countChute h .cut 1 }
        let dry := s.ctl.goingDry || s.ctl.dry
        exec (.entryStart g) s = .next (conclude (grantNext h { cut with
          firing := { cut.firing with
            queues := Tab.set [] cut.firing.queues g ((cut.queue g).map fun e =>
              if e.ident = x.ident then
                if dry then { e with phase := .opened, firing := some ⟨.dry, .none, .none⟩ }
                else { e with phase := .opening, firing := some ⟨.wet, .waiting, .none⟩ }
              else e)
            openCount := cut.firing.openCount.set h (cut.openCount h + 1) }
          bus := if dry then cut.bus
            else cut.bus.set h { cut.busOf h with
              requests := (cut.busOf h).requests ++ [⟨true, g, x.ident, x.start⟩] }
          tally := if dry then cut.tally.countChute h .dryFirings 1 else cut.tally }))))

/-- At its end a WET entry becomes CLOSING with a CLOSE due at that end, granted at once by an idle bus, and a DRY entry
leaves its queue; the open count falls by one. An end that finds no OPEN entry, such as one still OPENING, does nothing. Going
dry ends, and the DRY flag is set, when no WET record remains; a part that is not going dry is left as it is, and so is one of
which nothing is to be concluded (R103, R106, R114, R115, R155, R159; notes/assumptions/3). -/
def Obligations.EndClosesAndDryFlagFollows : Prop :=
  ∀ s : State, Awake s →
    (∀ (g : Nat) (earlier later : List Entry) (e : Entry) (f : FiringRecord),
      s.queue g = earlier ++ e :: later → ((s.queue g).map (·.ident)).Nodup →
      (∀ y ∈ earlier, ¬(y.phase = .opened ∧ due y.stop s.clk.now = true)) →
      e.phase = .opened → e.firing = some f → due e.stop s.clk.now = true →
      exec (.entryEnd g) s = .next (conclude (grantNext (chuteOf g)
        (let h := chuteOf g
         { s with
           firing := { s.firing with
             queues := Tab.set [] s.firing.queues g (match f.kind with
               | .wet => earlier ++ { e with phase := .closing, firing := some { f with closeReq := .waiting } } :: later
               | .dry => earlier ++ later)
             openCount := s.firing.openCount.set h (s.openCount h - 1) }
           bus := match f.kind with
             | .wet => s.bus.set h
               { s.busOf h with requests := (s.busOf h).requests ++ [⟨false, g, e.ident, e.stop⟩] }
             | .dry => s.bus })))) ∧
    (∀ g : Nat, (∀ e ∈ s.queue g, ¬(e.phase = .opened ∧ due e.stop s.clk.now = true)) →
      exec (.entryEnd g) s = .next s) ∧
    (s.ctl.goingDry = true →
      ((∀ p ∈ s.firing.queues, ∀ e ∈ p.2, ∀ f, e.firing = some f → f.kind ≠ .wet) →
        exec .dryFlagSet s = .next { s with ctl := { s.ctl with goingDry := false, dry := true } }) ∧
      ((∃ p ∈ s.firing.queues, ∃ e ∈ p.2, ∃ f, e.firing = some f ∧ f.kind = .wet) → exec .dryFlagSet s = .next s)) ∧
    (s.ctl.goingDry = false → exec .dryFlagSet s = .next s ∧
      (s.ctl.purge = none → ¬(s.ctl.op = .windDown ∧ NothingLeft s) → conclude s = s))

/-! ### Valve bus -/

/-- The arbiter of a free bus grants a waiting CLOSE ALL first, then the first CLOSE, then the first OPEN; a send carries
the tag counter, which advances. A late OPEN is not sent, its entry is starved and the next request is granted at once; on a bus
in use, or with nothing waiting, nothing is granted (R100, R113, R115, R117, R123). An OPEN whose entry is not OPENING is dropped
unsent (the model's choice, notes/assumptions/22). GRANT is this grant on its own (notes/assumptions/5). -/
def Obligations.GrantTakesCloseAllThenCloseThenOpen : Prop :=
  ∀ (s : State) (h : Chute),
    let b := s.busOf h
    (Awake s → exec (.grant h) s = .next
      (if b.inFlight = none ∧ (b.closeAll = true ∨ b.requests ≠ []) then conclude (grantNext h s) else s)) ∧
    ((b.inFlight ≠ none ∨ (b.closeAll = false ∧ b.requests = [])) → grantNext h s = s) ∧
    (b.inFlight = none → b.closeAll = true → grantNext h s = { s with bus := s.bus.set h { b with
      closeAll := false
      tag := b.tag + 1
      inFlight := some ⟨.closeAll, 0, 0, .a, b.tag, false, none, false⟩ } }) ∧
    (b.inFlight = none → b.closeAll = false → ∀ (earlier later : List Request) (r : Request),
      b.requests = earlier ++ r :: later →
      (∀ x ∈ earlier, x.isOpen = r.isOpen → GoesBefore r x) →
      (∀ x ∈ later, x.isOpen = r.isOpen → ¬GoesBefore x r) →
      let sent := fun (kind : BusKind) (f : FiringRecord → FiringRecord) => { s with
        firing := { s.firing with queues := Tab.set [] s.firing.queues r.nozzle ((s.queue r.nozzle).map fun e =>
          if e.ident = r.ident then { e with firing := e.firing.map f } else e) }
        bus := s.bus.set h { b with
          requests := earlier ++ later
          tag := b.tag + 1
          inFlight := some ⟨kind, r.nozzle, r.ident, b.active, b.tag, false, none, false⟩ } }
      let unsent := { s with bus := s.bus.set h { b with requests := earlier ++ later } }
      (r.isOpen = false → grantNext h s = sent .close fun f => { f with closeReq := .inFlight }) ∧
      (r.isOpen = true → (∀ x ∈ b.requests, x.isOpen = true) →
        ((∀ e ∈ s.queue r.nozzle, e.ident ≠ r.ident) → grantNext h s = grantNext h unsent) ∧
        ∀ e : Entry, (s.queue r.nozzle).find? (fun e => e.ident == r.ident) = some e →
          (e.phase ≠ .opening → grantNext h s = grantNext h unsent) ∧
          (e.phase = .opening →
            let last := e.stop - BitVec.ofNat 32 s.settings.widthMin
            (atOrBefore last s.clk.now = false → grantNext h s = sent .opn fun f => { f with openReq := .inFlight }) ∧
            (atOrBefore last s.clk.now = true → chuteOf r.nozzle = h →
              grantNext h s = grantNext h { unsent with
                firing := { s.firing with
                  queues := Tab.set [] s.firing.queues r.nozzle ((s.queue r.nozzle).filter fun e => e.ident != r.ident)
                  openCount := s.firing.openCount.set h (s.openCount h - 1) }
                tally := s.tally.countChute h .starved 1 }))))

/-- A sent command's reply wait lasts REPLY WAIT; a first send whose wait runs out is sent again on the other lane with a new
tag and counted RETRIES; a reply on another lane, with another tag, too late, that cannot be read, or with no transaction in
flight changes nothing (R113, R117, R118, R119). The bytes of a send and of a reply are those of 12.3 (R117, R118, R185, R187). -/
def Obligations.SendsWaitRetryAndIgnore : Prop :=
  (∀ (s : State) (h : Chute), Awake s →
    let b := s.busOf h
    (b.inFlight = none →
      exec (.commandSent h) s = .next s ∧ exec (.replyWaitExpiry h) s = .next s ∧
      ∀ (lane : Lane) (bytes : List Byte), exec (.valveReply h lane bytes) s = .next s) ∧
    ∀ t : Transaction, b.inFlight = some t →
      (t.waitEnd = none → exec (.replyWaitExpiry h) s = .next s ∧
        exec (.commandSent h) s = .next { s with bus := s.bus.set h { b with
          inFlight := some { t with waitEnd := some (s.clk.now + BitVec.ofNat 32 (20 * 2 ^ s.settings.replyWait)) } } }) ∧
      (∀ stop, t.waitEnd = some stop → exec (.commandSent h) s = .next s ∧
        (due stop s.clk.now = false → exec (.replyWaitExpiry h) s = .next s) ∧
        (due stop s.clk.now = true → t.kind ≠ .closeAll → t.retry = false →
          exec (.replyWaitExpiry h) s = .next { s with
            bus := s.bus.set h { b with
              tag := b.tag + 1
              inFlight := some { t with lane := otherLane t.lane, tag := b.tag, retry := true, waitEnd := none } }
            tally := s.tally.countChute h .retries 1 })) ∧
      (∀ (lane : Lane) (bytes : List Byte),
        (decodeValveReply bytes = none ∨ lane ≠ t.lane ∨ (∃ r, decodeValveReply bytes = some r ∧ r.tag ≠ t.tag) ∨
          ∃ stop, t.waitEnd = some stop ∧ before stop s.clk.now = true) →
        exec (.valveReply h lane bytes) s = .next s)) ∧
  (∀ t : Transaction, ∃ b0 b1 : Byte, valveCommand t = [b0, b1, crc8 [b0, b1]] ∧
    b0.toNat = t.tag.toNat * 16 + (if t.kind = .opn then 1 else if t.kind = .close then 2 else 3) ∧
    b1.toNat = if t.kind = .closeAll then 0 else t.nozzle % 40) ∧
  (∀ bytes : List Byte, bytes.length ≠ 4 → decodeValveReply bytes = none) ∧
  ∀ b0 b1 b2 b3 : Byte,
    (b3 ≠ crc8 [b0, b1, b2] ∨ (b0.toNat % 16 ≠ 1 ∧ b0.toNat % 16 ≠ 2) → decodeValveReply [b0, b1, b2, b3] = none) ∧
    (b3 = crc8 [b0, b1, b2] → b0.toNat % 16 = 1 ∨ b0.toNat % 16 = 2 → ∃ v : ValveReply,
      decodeValveReply [b0, b1, b2, b3] = some v ∧ v.tag.toNat = b0.toNat / 16 ∧ (v.done = true ↔ b0.toNat % 16 = 1) ∧
      v.latency = b1.toNat % 16 * 256 + b2.toNat)

/-- What a completion does to the nozzle record: an OPEN answered DONE counts wear, clears the misses, records and learns
the latency; an OPEN or CLOSE that fails makes the nozzle FAILED with its cause, the first one being kept; the grant and the
endings that follow leave the records as they are (R126, R127, R128, R129, R134, R138). A reply while the command is still
leaving the lane, or at the very end of the wait, is taken as good: the model's reading (notes/assumptions/13). -/
def Obligations.CompletionActsOnTheNozzleRecord : Prop :=
  ∀ (s : State) (h : Chute) (t : Transaction), Awake s → (s.busOf h).inFlight = some t →
    let r := s.nozzle t.nozzle
    let failed := fun (cause : FailureCause) (x : NozzleRecord) =>
      if x.state = .failed then x else { x with state := .failed, cause := cause }
    let alone := fun u : State => (∀ g, g ≠ t.nozzle → u.nozzle g = s.nozzle g) ∧ u = { s with
      nozzles := u.nozzles, firing := u.firing, bus := u.bus, tally := u.tally, notices := u.notices }
    (∀ (bytes : List Byte) (v : ValveReply), decodeValveReply bytes = some v → v.tag = t.tag →
      (∀ stop, t.waitEnd = some stop → before stop s.clk.now = false) →
      (t.kind = .closeAll → ∃ w : State, exec (.valveReply h t.lane bytes) s = .next w ∧ w.nozzles = s.nozzles) ∧
      (t.kind ≠ .closeAll → ∃ u : State, exec (.valveReply h t.lane bytes) s = .next (conclude (grantNext h u)) ∧
        (conclude (grantNext h u)).nozzles = u.nozzles ∧
        (t.kind = .opn → v.done = true → u.nozzles = Tab.set .cold s.nozzles t.nozzle
          (let r' := { r with wear := min (r.wear + 1) 4294967295, misses := 0, lastResult := .done }
           if v.latency = 0 then r'
           else if (workingChute s (chuteOf t.nozzle)).learning = false then { r' with lastLatency := v.latency }
           else { r' with
             lastLatency := v.latency
             latency := (max 0 (min 4095 ((r.latency : Int) + ((v.latency : Int) - r.latency + 4) / 8))).toNat })) ∧
        (t.kind = .opn → v.done = false →
          u.nozzle t.nozzle = failed .openCoilFault { r with lastResult := .coilFault }) ∧
        (t.kind = .close → v.done = true → u.nozzle t.nozzle = { r with lastResult := .done }) ∧
        (t.kind = .close → v.done = false →
          u.nozzle t.nozzle = failed .closeNotConfirmed { r with lastResult := .coilFault }) ∧
        alone u)) ∧
    (∀ stop, t.waitEnd = some stop → due stop s.clk.now = true → t.retry = true → t.kind ≠ .closeAll →
      ∃ u : State, exec (.replyWaitExpiry h) s = .next (conclude (grantNext h u)) ∧
        (conclude (grantNext h u)).nozzles = u.nozzles ∧
        u.nozzle t.nozzle =
          (if t.kind = .opn then
            let r' := { r with misses := min (r.misses + 1) 15, lastResult := .noReply }
            if s.settings.missLimit ≤ r'.misses then failed .misses r' else r'
          else failed .closeNotConfirmed { r with lastResult := .noReply }) ∧
        alone u)

/-- What a completion of an OPEN or CLOSE, DONE, COIL FAULT or NO REPLY, does to its entry, its bus, the tally and the
notices: OPENING becomes OPEN, or CLOSING where its end has come; CLOSING stays or leaves with its CLOSE; an entry gone is left
alone; a nozzle that leaves service loses its WAITING entries; an answered retry flips the lane; the bus is free and the next
request is granted in the same event (R62, R71, R74, R101, R102, R104, R120, R121, R129, R134). When a reply is good, and a
CLOSE that finds its entry not CLOSING, are the model's readings (notes/assumptions/13 and 22). -/
def Obligations.CompletionMovesTheEntry : Prop :=
  ∀ (c : Instr) (s : State) (h : Chute) (t : Transaction) (result : LastResult), Awake s →
    (s.busOf h).inFlight = some t → t.kind ≠ .closeAll → chuteOf t.nozzle = h →
    ((s.queue t.nozzle).map (·.ident)).Nodup → (∀ e ∈ s.queue t.nozzle, e.ident = t.ident → e.phase ≠ .waiting) →
    Completes s h t result c →
    ∃ u : State, exec c s = .next (conclude (grantNext h u)) ∧
      let g := t.nozzle
      let flips := t.retry = true ∧ result ≠ .noReply
      let fails := (s.nozzle g).state ≠ .failed ∧ (u.nozzle g).state = .failed
      let leaves := (s.nozzle g).state = .inService ∧ (u.nozzle g).state = .failed
      let kept := fun l : List Entry => if leaves then l.filter fun e => e.phase != .waiting else l
      let counted := fun found : Prop =>
        let a := if flips then (s.tally.chutes.get h).add .laneFlips 1 else s.tally.chutes.get h
        let b := if leaves then a.add .firingsAbandoned ((s.queue g).countP fun e => e.phase == .waiting) else a
        u.tally.chutes = s.tally.chutes.set h (u.tally.chutes.get h) ∧
          (found ∧ t.kind = .opn →
            u.tally.chutes.get h = b.add (if result = .done then .opened else .unconfirmed) 1) ∧
          (¬(found ∧ t.kind = .opn) → u.tally.chutes.get h = b)
      let freed := fun more : List Request => u.bus = s.bus.set h { s.busOf h with
        inFlight := none
        active := if flips then t.lane else (s.busOf h).active
        requests := (s.busOf h).requests ++ more }
      ((∀ e ∈ s.queue g, e.ident ≠ t.ident) →
        u.queue g = kept (s.queue g) ∧ u.firing.openCount = s.firing.openCount ∧ freed [] ∧ counted False) ∧
      (∀ (earlier later : List Entry) (e : Entry), s.queue g = earlier ++ e :: later → e.ident = t.ident →
        let moved := fun l : List Entry => u.queue g = kept earlier ++ l ++ kept later
        counted True ∧
        (t.kind = .close → u.firing.openCount = s.firing.openCount ∧ freed [] ∧
          (e.phase = .closing → moved []) ∧ (e.phase ≠ .closing → moved [e])) ∧
        (t.kind = .opn → e.phase = .opening → atOrBefore e.stop s.clk.now = false →
          u.firing.openCount = s.firing.openCount ∧ freed [] ∧ moved [{ e with
            phase := .opened, firing := e.firing.map fun f => { f with openReq := .complete } }]) ∧
        (t.kind = .opn → e.phase = .opening → atOrBefore e.stop s.clk.now = true →
          u.firing.openCount = s.firing.openCount.set h (s.openCount h - 1) ∧
          freed [⟨false, g, t.ident, e.stop⟩] ∧ moved [{ e with
            phase := .closing
            firing := e.firing.map fun f => { f with openReq := .complete, closeReq := .waiting } }]) ∧
        (t.kind = .opn → e.phase ≠ .opening → u.firing.openCount = s.firing.openCount ∧ freed [] ∧ moved [{ e with
            firing := e.firing.map fun f => { f with openReq := .complete } }])) ∧
      (let mask := s.settings.noticeMask
       let a := if flips then s.notices.set mask .laneFlipped (some h) else s.notices
       let b := if fails then a.set mask .nozzleFailed (some h) else a
       u.notices = if t.kind = .close ∧ result ≠ .done then b.set mask .closeFailed (some h) else b) ∧
      (∀ g', g' ≠ g → u.queue g' = s.queue g') ∧
      u = { s with
        firing := { s.firing with queues := u.firing.queues, openCount := u.firing.openCount }
        bus := u.bus, nozzles := u.nozzles, tally := { s.tally with chutes := u.tally.chutes }, notices := u.notices }

/-- A CLOSE ALL sends on lane A and then on lane B, each send ended by a good reply or by its wait, and sets CLOSE FAILED
when neither send drew DONE; it flips no lane and changes no nozzle record, and the next request is granted as it ends (R115,
R118, R122, R123). When a reply is good is the model's reading (notes/assumptions/13). -/
def Obligations.CloseAllSendsOnBothLanes : Prop :=
  ∀ (s : State) (h : Chute) (t : Transaction), Awake s → (s.busOf h).inFlight = some t → t.kind = .closeAll →
    let b := s.busOf h
    let ended := fun drewDone : Bool =>
      match t.lane with
      | .a => { s with bus := s.bus.set h { b with
          tag := b.tag + 1
          inFlight := some { t with lane := .b, tag := b.tag, waitEnd := none, drewDone := drewDone } } }
      | .b => conclude (grantNext h { s with
          bus := s.bus.set h { b with inFlight := none }
          notices := if drewDone then s.notices else s.notices.set s.settings.noticeMask .closeFailed (some h) })
    (∀ stop, t.waitEnd = some stop → due stop s.clk.now = true →
      exec (.replyWaitExpiry h) s = .next (ended t.drewDone)) ∧
    (∀ (bytes : List Byte) (v : ValveReply), decodeValveReply bytes = some v → v.tag = t.tag →
      (∀ stop, t.waitEnd = some stop → before stop s.clk.now = false) →
      exec (.valveReply h t.lane bytes) s = .next (ended (t.drewDone || v.done)))

/-! ### Inputs -/

/-- The emergency stop, in every operating state: an assertion of ESTOP (R16, R19, R75, R91, R106, R110, R114, R116, R123,
R156, R162). That a warm reset is owed from then on, where a wind-down was under way, and that an ESTOP in HALT leaves the table
window open, are the model's readings (notes/assumptions/7 and 26). -/
def Obligations.EmergencyStopEmptiesThePart : Prop :=
  ∀ s : State, Awake s → s.ctl.estop = false → s.ctl.resetDue = false → ∃ t : State,
    exec .estopAssertion s = .next t ∧
    t.ctl = { s.ctl with
      op := .halt, estop := true, purge := none, windDown := none
      resetDue := decide (s.ctl.op = .windDown)
      dry := s.ctl.dry || s.ctl.goingDry, goingDry := false } ∧
    t.firing = { s.firing with queues := [], openCount := PerChute.const 0 } ∧
    (∀ h : Chute, t.busOf h =
      let b := { s.busOf h with requests := [] }
      match (s.busOf h).inFlight with
      | some _ => { b with closeAll := true }
      | none => { b with
        closeAll := false
        tag := b.tag + 1
        inFlight := some ⟨.closeAll, 0, 0, .a, b.tag, false, none, false⟩ }) ∧
    t.planner = none ∧ t.port = { s.port with intake := [], hold := false } ∧
    t.verdicts = ⟨[], PerChute.const []⟩ ∧
    t.link = { s.link with window := if s.ctl.op = .halt then s.link.window else none } ∧
    t.notices = s.notices.set s.settings.noticeMask .estop none ∧
    (∀ h, (t.tally.chutes.get h) = (s.tally.chutes.get h).add .firingsAbandoned
      (countEntries s h fun e => e.phase != .closing)) ∧
    (ClassesInRange s → ∀ (h : Chute) (k : Nat), k < 16 →
      t.tally.sighting h k = { s.tally.sighting h k with
        abandoned := if pendingCount s h k = 0 then (s.tally.sighting h k).abandoned
          else min ((s.tally.sighting h k).abandoned + pendingCount s h k) 4294967295 }) ∧
    t.banks = { s.banks with
      lastSwap := if s.planner.isSome && s.banks.settleHeld then none else s.banks.lastSwap
      settleHeld := s.banks.settleHeld && s.planner.isNone } ∧
    t = { s with
      ctl := t.ctl, firing := t.firing, bus := t.bus, planner := t.planner, port := t.port, verdicts := t.verdicts
      link := t.link, notices := t.notices, tally := t.tally, banks := t.banks }

/-- The levels of ESTOP and AIRLOW follow their lines, and an assertion of AIRLOW sets AIR LOW (R96, R156). A level asserted
already is not asserted again, the model's reading (notes/assumptions/23). -/
def Obligations.LevelsFollowTheLines : Prop :=
  ∀ s : State, Awake s →
    exec .estopRelease s = .next { s with ctl := { s.ctl with estop := false } } ∧
    exec .airlowRelease s = .next { s with ctl := { s.ctl with airlow := false } } ∧
    (s.ctl.airlow = false → exec .airlowAssertion s = .next { s with
      ctl := { s.ctl with airlow := true }
      notices := s.notices.set s.settings.noticeMask .airLow none }) ∧
    (s.ctl.airlow = true → exec .airlowAssertion s = .next s) ∧
    (s.ctl.estop = true → exec .estopAssertion s = .next s)

/-! ### Purge, wind-down and warm reset -/

/-- A purge turn, when its time has come and generation has not ended, offers each chute's nozzle k mod 40 that is in service a
PURGE firing, puts the entry that stands for an offer created or merged into the purge set, and schedules the next turn, or
ends the generation (R154). A purge whose generation has ended and whose set has left its queues completes; before that the
set loses just the entries that have left their queues (R155). Without a purge record neither event does anything, as at any
event that cannot take place (notes/assumptions/3). -/
def Obligations.PurgeTurnsAndCompletes : Prop :=
  (∀ s : State, Awake s →
    (s.ctl.purge = none → exec .purgeTurn s = .next s ∧ exec .purgeComplete s = .next s) ∧
    ∀ p : Purge, s.ctl.purge = some p →
      exec .purgeTurn s = .next (if p.ended = false ∧ due p.nextTime s.clk.now = true then makeTurn p s else s) ∧
      (p.ended = true → s.ctl.op = .purge → (∀ x ∈ p.set, ∀ e ∈ s.queue x.1, e.ident ≠ x.2) →
        exec .purgeComplete s = .next { s with
          ctl := { s.ctl with op := .standby, purge := none }
          link := { s.link with window := none }
          notices := s.notices.set s.settings.noticeMask .purgeDone none }) ∧
      (p.ended = false ∨ (∃ x ∈ p.set, ∃ e ∈ s.queue x.1, e.ident = x.2) →
        exec .purgeComplete s = .next { s with ctl := { s.ctl with purge := some { p with
          set := p.set.filter fun x => decide (∃ e ∈ s.queue x.1, e.ident = x.2) } } })) ∧
  (∀ (s : State) (p : Purge),
    let n := p.nextTurn % 40
    let u := purgeOffer p.width n 3 (purgeOffer p.width n 2 (purgeOffer p.width n 1 (purgeOffer p.width n 0 s)))
    makeTurn p s = conclude { u with ctl := { u.ctl with purge := u.ctl.purge.map fun q => { q with
      nextTurn := q.nextTurn + 1
      nextTime := q.nextTime + BitVec.ofNat 32 q.spacing
      ended := decide (q.nextTurn + 1 = q.turns) } } }) ∧
  (∀ (s : State) (width n : Nat) (h : Chute),
    let g := h.val * 40 + n
    let start := s.clk.now + BitVec.ofNat 32 s.settings.leadMin
    purgeOffer width n h s =
      if (s.nozzle g).state = .inService then
        match offer g start (start + BitVec.ofNat 32 width) 0 .purge s with
        | (t, .created i) => addToPurge g i t
        | (t, .merged i) => addToPurge g i t
        | (t, _) => t
      else s) ∧
  ∀ (s : State) (p : Purge) (g i : Nat), s.ctl.purge = some p →
    addToPurge g i s = { s with ctl := { s.ctl with purge := some { p with
      set := if (g, i) ∈ p.set then p.set else p.set ++ [(g, i)] } } }

/-- The expiry of the WIND-DOWN LIMIT gives up the pending sightings, leaves only CLOSING entries, each with its CLOSE, and
keeps the expired-tag rings; idle buses grant, and a wind-down with nothing left ends, in the same event (R77, R105, R114, R115,
R159, R160, R164). A withdrawn OPEN leaves its request NONE, and the CLOSEs of one nozzle are handed over in the order of its
queue: the model's choices (notes/assumptions/32 and 33). Without a wind-down nothing happens (notes/assumptions/3). -/
def Obligations.WindDownLimitReducesTheQueues : Prop :=
  (∀ s : State, Awake s → s.ctl.windDown = none → exec .windDownLimitExpiry s = .next s) ∧
  ∀ (s : State) (w : WindDown), Awake s → s.ctl.windDown = some w →
    (¬(w.phase = .draining ∧ due w.expiry s.clk.now = true) → exec .windDownLimitExpiry s = .next s) ∧
    (w.phase = .draining → due w.expiry s.clk.now = true → Tab.wf [] s.firing.queues = true → ∃ t : State,
      exec .windDownLimitExpiry s
        = .next (conclude (grantNext 3 (grantNext 2 (grantNext 1 (grantNext 0 t))))) ∧
      t.ctl = { s.ctl with windDown := some { w with phase := .closingOut } } ∧
      t.planner = none ∧ t.port = { s.port with intake := [], hold := false } ∧
      t.verdicts = { s.verdicts with held := [] } ∧
      t.firing.openCount = PerChute.const 0 ∧
      (∀ g, t.queue g = (s.queue g).filterMap fun e =>
        match e.phase with
        | .waiting => none
        | .closing => some e
        | _ =>
          if e.kind = .dry then none
          else some { e with
            phase := .closing
            firing := some ⟨.wet,
              if (e.firing.map (·.openReq)) = some .waiting then .none else (e.firing.map (·.openReq)).getD .none,
              .waiting⟩ }) ∧
      (∀ h : Chute, ∃ closes : List Request,
        t.busOf h = { s.busOf h with requests := (s.busOf h).requests.filter (fun r => !r.isOpen) ++ closes } ∧
        (∀ r ∈ closes, chuteOf r.nozzle = h) ∧
        ∀ g, chuteOf g = h → closes.filter (fun r => r.nozzle == g) =
          ((s.queue g).filter fun e => e.holdsAir && e.kind == .wet).map fun e => ⟨false, g, e.ident, s.clk.now⟩) ∧
      (∀ h, (t.tally.chutes.get h) = (s.tally.chutes.get h).add .firingsAbandoned
        (countEntries s h fun e => e.phase != .closing)) ∧
      (ClassesInRange s → ∀ (h : Chute) (k : Nat), k < 16 →
        t.tally.sighting h k = { s.tally.sighting h k with
          abandoned := if pendingCount s h k = 0 then (s.tally.sighting h k).abandoned
            else min ((s.tally.sighting h k).abandoned + pendingCount s h k) 4294967295 }) ∧
      t.banks = { s.banks with
        lastSwap := if s.planner.isSome && s.banks.settleHeld then none else s.banks.lastSwap
        settleHeld := s.banks.settleHeld && s.planner.isNone } ∧
      t.firing.nextIdent = s.firing.nextIdent ∧
      t = { s with
        ctl := t.ctl, planner := t.planner, port := t.port, verdicts := t.verdicts, firing := t.firing, bus := t.bus
        tally := t.tally, banks := t.banks })

/-- The warm reset: every block takes its warm reset values, and idle buses send their CLOSE ALL (R1, R6, R16, R35, R112,
R124, R161, R165, R174, R176). It comes in the event that leaves nothing of a wind-down's work, as endings are judged (R159),
and, where one is owed, before any other event of the state controller (R162). That a waiting request is dropped, that a cut
pulse leaves LSYNC low for just 4 µs, and when an owed reset comes, are the model's readings (notes/assumptions/25, 20 and 7). -/
def Obligations.WarmResetTakesItsValues : Prop :=
  ∀ s : State, Awake s →
    ((s.ctl.resetDue = true ∨ (s.ctl.op = .windDown ∧ NothingLeft s)) →
    ∃ t : State, exec .warmReset s = .next t ∧
      t.clk = ⟨0, 0, 0, BitVec.ofNat 32 s.clk.period, s.clk.period, false,
        if s.clk.lsync = .low then .high 20 else .cut 4 24⟩ ∧
      t.ctl = { s.ctl with
        op := if s.ctl.estop then .halt else .standby
        dry := false, goingDry := false, windDown := none, purge := none, resetDue := false } ∧
      t.port = ⟨.collecting [], [], false⟩ ∧ t.planner = none ∧ t.verdicts = ⟨[], PerChute.const []⟩ ∧
      t.banks = { s.banks with pendingSwap := none, lastSwap := none, settleHeld := false } ∧
      t.firing = { s.firing with queues := [], openCount := PerChute.const 0 } ∧
      (∀ h : Chute, t.busOf h =
        let b := { s.busOf h with requests := [] }
        match (s.busOf h).inFlight with
        | some x => { b with
          closeAll := true
          inFlight := some { x with waitEnd := x.waitEnd.map fun stop => stop - s.clk.now } }
        | none => { b with
          closeAll := false
          tag := b.tag + 1
          inFlight := some ⟨.closeAll, 0, 0, .a, b.tag, false, none, false⟩ }) ∧
      t.nozzles = s.nozzles ∧ t.settings = s.settings ∧ t.tally = ⟨[], PerChute.const .zero, ⟨0, 0⟩⟩ ∧
      t.link.address = s.link.address ∧ t.link.window = none ∧ t.link.rx = .hunting ∧
      (∀ reply, s.link.tx = .sending reply → t.link.tx = .sending reply) ∧
      (∀ reply since, s.link.tx = .turnaround reply since → t.link.tx = .turnaround reply (since - s.clk.now)) ∧
      (s.link.tx = .idle → t.link.tx = .idle) ∧
      (∀ k : NoticeKind, t.notices.record k =
        if k = .restarted ∨ (k = .estop ∧ s.ctl.estop = true) then ⟨true, 1, 0⟩ else ⟨false, 0, 0⟩) ∧
      t.notices.armed = true ∧
      t.notices.attn = (!s.settings.noticeMask.getLsbD 10 || (s.ctl.estop && !s.settings.noticeMask.getLsbD 7)) ∧
      t.pending = s.pending) ∧
    (s.ctl.resetDue = false → exec .warmReset s = .next (endWindDown s)) ∧
    (¬(s.ctl.op = .windDown ∧ NothingLeft s) → endWindDown s = s) ∧
    (∃ u v : State, exec .dryFlagSet s = .next u ∧ exec .purgeComplete u = .next v ∧ conclude s = endWindDown v) ∧
    (s.ctl.resetDue = true → ∃ t : State, exec .warmReset s = .next t ∧
      (s.ctl.estop = false → exec .estopAssertion s = exec .estopAssertion t) ∧
      (Listening s → ∀ a : Byte, a = s.link.address → 1 ≤ a.toNat → a.toNat ≤ 32 →
        exec (.goRun a []) s = exec (.goRun a []) t ∧ exec (.goStandby a []) s = exec (.goStandby a []) t ∧
        (∀ p : List Byte, p.length = 5 → exec (.purge a p) s = exec (.purge a p) t) ∧
        exec (.restart a []) s = exec (.restart a []) t ∧ exec (.clearCold a []) s = exec (.clearCold a []) t ∧
        exec (.dryOn a []) s = exec (.dryOn a []) t ∧ exec (.dryOff a []) s = exec (.dryOff a []) t))

/-! ### The control link -/

/-- A whole frame taken up byte by byte is checked and judged as its row says: the receiver's bytes, CHECK and LENGTH agree
with the frame that was sent (R166, R185, R187). -/
def Obligations.FrameBytesAreJudgedAsTheFrame : Prop :=
  ∀ (s : State) (addr kind : Byte) (payload : List Byte), Listening s → payload.length ≤ 200 →
    frameBytesIn (frameBytes addr kind payload) s = judgeFrame addr kind payload s ∧
    exec (.unknownCommand addr kind payload) s = .next (judgeFrame addr kind payload s)

/-- A frame with a bad CHECK or a LENGTH above 200 is a control error that leaves the receiver RESYNCING; a partial frame
ended by a gap is one that leaves it HUNTING; in RESYNCING, and while a reply is pending or being sent, bytes are lost (R166,
R167). A CONTROL_RESYNC_TIMEOUT of a receiver that is not RESYNCING does nothing (notes/assumptions/3). -/
def Obligations.BadFramesAreControlErrors : Prop :=
  ∀ s : State, Awake s →
    (s.link.tx = .idle → s.link.rx = .hunting →
      (∀ (addr kind c1 c0 : Byte) (payload rest : List Byte), payload.length ≤ 200 →
        [c1, c0] ≠ bytes16 (crc16 (frameBody addr kind payload)).toNat →
        exec (.controlError (startByte :: (frameBody addr kind payload ++ c1 :: c0 :: rest))) s
          = .next (controlErrorWith .resyncing s)) ∧
      (∀ (addr kind len : Byte) (rest : List Byte), 200 < len.toNat →
        exec (.controlError (startByte :: addr :: kind :: len :: rest)) s = .next (controlErrorWith .resyncing s)) ∧
      (∀ (addr kind : Byte) (n : Nat) (payload : List Byte), n ≤ 200 → payload.length < n + 2 →
        exec (.frameIdleTimeout [startByte]) s = .next (controlErrorWith .hunting s) ∧
        exec (.frameIdleTimeout [startByte, addr]) s = .next (controlErrorWith .hunting s) ∧
        exec (.frameIdleTimeout [startByte, addr, kind]) s = .next (controlErrorWith .hunting s) ∧
        exec (.frameIdleTimeout (startByte :: addr :: kind :: BitVec.ofNat 8 n :: payload)) s
          = .next (controlErrorWith .hunting s))) ∧
    (s.link.rx = .resyncing →
      (∀ bytes, exec (.controlError bytes) s = .next s) ∧
      exec .controlResyncTimeout s = .next { s with link := { s.link with rx := .hunting } }) ∧
    (s.link.rx ≠ .resyncing → exec .controlResyncTimeout s = .next s) ∧
    (s.link.tx ≠ .idle → ∀ (bytes : List Byte) (addr kind : Byte), exec (.controlError bytes) s = .next s ∧
      exec (.unknownCommand addr kind bytes) s = .next s)

/-- The turnaround ends no sooner than 20 µs after its reply was given; when the reply has left, the transmitter is IDLE
and the receiver HUNTING (R166, R170). A reply's frame carries the part's address, the command's KIND with the reply mark, the
code of its result, its payload and the CRC-16 (R170, R185, R187 and 12.4). The end of a turnaround or of a reply that is not
under way does nothing (notes/assumptions/3). -/
def Obligations.ReplyWaitsItsTurnaround : Prop :=
  (∀ (s : State) (reply : Reply), Awake s →
    (∀ since, s.link.tx = .turnaround reply since →
      (20 ≤ (s.clk.now - since).toNat →
        exec .replyTurnaroundEnd s = .next { s with link := { s.link with tx := .sending reply } }) ∧
      ((s.clk.now - since).toNat < 20 → exec .replyTurnaroundEnd s = .next s)) ∧
    (s.link.tx = .sending reply →
      exec .replySent s = .next { s with link := { s.link with tx := .idle, rx := .hunting } })) ∧
  (∀ s : State, Awake s →
    ((∀ reply since, s.link.tx ≠ .turnaround reply since) → exec .replyTurnaroundEnd s = .next s) ∧
    ((∀ reply, s.link.tx ≠ .sending reply) → exec .replySent s = .next s)) ∧
  (∀ (address kind : Byte) (result : Result) (payload : List Byte), payload.length ≤ 199 →
    ∃ k length code c1 c0 : Byte,
      replyFrame address ⟨kind, result, payload⟩
        = 0xA5 :: address :: k :: length :: code :: (payload ++ [c1, c0]) ∧
      (∀ i < 7, k.getLsbD i = kind.getLsbD i) ∧ k.msb = true ∧ length.toNat = payload.length + 1 ∧
      (result, code) ∈ [(Result.done, (0 : Byte)), (.clamped, 1), (.unknown, 2), (.malformed, 3), (.notNow, 4),
        (.outOfRange, 5), (.noWindow, 6), (.notLoaded, 7), (.settling, 8), (.cold, 9)] ∧
      c1 ++ c0 = crc16 (address :: k :: length :: code :: payload)) ∧
  ∀ bytes : List Byte, crc16 bytes = bytes.foldl (fun (c : BitVec 16) (b : Byte) =>
    (List.range 8).foldl (fun (c : BitVec 16) _ => if c.msb then (c <<< 1) ^^^ 0x1021#16 else c <<< 1) (c ^^^ (b ++ 0#8))) 0xFFFF#16

/-- Every row of a host command is the frame with its KIND, and with its first payload byte for the rows of DRY, SWAP and
SET (R169, R171, R186 and the codes of 12.4). -/
def Obligations.CommandRowsAreFrames : Prop :=
  ∀ (s : State) (a : Byte) (p : List Byte),
    exec (.poll a p) s = exec (.unknownCommand a 0x01 p) s ∧
    exec (.notices a p) s = exec (.unknownCommand a 0x02 p) s ∧
    exec (.rearm a p) s = exec (.unknownCommand a 0x03 p) s ∧
    exec (.goRun a p) s = exec (.unknownCommand a 0x04 p) s ∧
    exec (.goStandby a p) s = exec (.unknownCommand a 0x05 p) s ∧
    exec (.purge a p) s = exec (.unknownCommand a 0x06 p) s ∧
    exec (.restart a p) s = exec (.unknownCommand a 0x07 p) s ∧
    exec (.clearCold a p) s = exec (.unknownCommand a 0x08 p) s ∧
    exec (.dryOff a p) s = exec (.unknownCommand a 0x09 (0 :: p)) s ∧
    exec (.dryOn a p) s = exec (.unknownCommand a 0x09 (1 :: p)) s ∧
    exec (.window a p) s = exec (.unknownCommand a 0x0A p) s ∧
    exec (.put a p) s = exec (.unknownCommand a 0x0B p) s ∧
    exec (.get a p) s = exec (.unknownCommand a 0x0C p) s ∧
    exec (.swapAtLine a p) s = exec (.unknownCommand a 0x0D (0 :: p)) s ∧
    exec (.swapAtNextLine a p) s = exec (.unknownCommand a 0x0D (1 :: p)) s ∧
    exec (.swapCancel a p) s = exec (.unknownCommand a 0x0D (2 :: p)) s ∧
    exec (.nozzleRead a p) s = exec (.unknownCommand a 0x0E p) s ∧
    exec (.nozzleWrite a p) s = exec (.unknownCommand a 0x0F p) s ∧
    exec (.test a p) s = exec (.unknownCommand a 0x10 p) s ∧
    exec (.lane a p) s = exec (.unknownCommand a 0x11 p) s ∧
    exec (.setAirTrim a p) s = exec (.unknownCommand a 0x12 (1 :: p)) s ∧
    exec (.setLinePeriod a p) s = exec (.unknownCommand a 0x12 (2 :: p)) s ∧
    exec (.setMaxAge a p) s = exec (.unknownCommand a 0x12 (3 :: p)) s ∧
    exec (.setLeadMin a p) s = exec (.unknownCommand a 0x12 (4 :: p)) s ∧
    exec (.setWidthMin a p) s = exec (.unknownCommand a 0x12 (5 :: p)) s ∧
    exec (.setWidthMax a p) s = exec (.unknownCommand a 0x12 (6 :: p)) s ∧
    exec (.setWidthCap a p) s = exec (.unknownCommand a 0x12 (7 :: p)) s ∧
    exec (.setValveGap a p) s = exec (.unknownCommand a 0x12 (8 :: p)) s ∧
    exec (.setReplyWait a p) s = exec (.unknownCommand a 0x12 (9 :: p)) s ∧
    exec (.setMissLimit a p) s = exec (.unknownCommand a 0x12 (10 :: p)) s ∧
    exec (.setWindDownLimit a p) s = exec (.unknownCommand a 0x12 (11 :: p)) s ∧
    exec (.setGroupAddress a p) s = exec (.unknownCommand a 0x12 (12 :: p)) s ∧
    exec (.setNoticeMask a p) s = exec (.unknownCommand a 0x12 (13 :: p)) s ∧
    exec (.query a p) s = exec (.unknownCommand a 0x13 p) s ∧
    exec (.tally a p) s = exec (.unknownCommand a 0x14 p) s

/-- A frame is sorted by its ADDRESS: replies and frames for others change nothing; by broadcast and by group address a
command acts without a reply, and one that exists for its reply alone does not act; a KIND that is no command is refused with
UNKNOWN (R167, R168, R169). -/
def Obligations.FramesAreSortedByAddress : Prop :=
  ∀ (s : State) (addr kind : Byte) (payload : List Byte), Listening s → payload.length ≤ 200 →
    1 ≤ s.link.address.toNat → s.link.address.toNat ≤ 32 →
    let silent := addr = 0 ∨ (addr = s.settings.group ∧ addr.toNat < 64 ∧ addr ≠ s.link.address)
    let replyOnly := kind = 0x01 ∨ kind = 0x02 ∨ kind = 0x0C ∨ kind = 0x0E ∨ kind = 0x13 ∨ kind = 0x14
    (kind.msb = true → exec (.unknownCommand addr kind payload) s = .next s) ∧
    (addr ≠ s.link.address → ¬silent → exec (.unknownCommand addr kind payload) s = .next s) ∧
    (kind.msb = false → silent → replyOnly → exec (.unknownCommand addr kind payload) s = .next s) ∧
    (kind.msb = false → silent → ¬replyOnly →
      ∀ t, exec (.unknownCommand s.link.address kind payload) s = .next t →
        exec (.unknownCommand addr kind payload) s = .next { t with link := { t.link with tx := .idle } }) ∧
    (kind = 0 ∨ (0x15 ≤ kind.toNat ∧ kind.toNat < 128) →
      exec (.unknownCommand s.link.address kind payload) s = .next (replied kind .unknown [] s))

/-- A command whose LENGTH is not the one its layout gives is refused with MALFORMED; one of a right LENGTH whose code
field holds a value that its table does not list, with OUT OF RANGE: the value of DRY, the form of SWAP, the setting id of SET
and the table of WINDOW; the other code fields are in the statements of their commands (R169, R186, 12.4). -/
def Obligations.WrongLengthsAreMalformed : Prop :=
  ∀ s : State, Heard s s.link.address →
    let a := s.link.address
    (∀ (kind : Byte) (payload : List Byte), payload.length ≤ 200 → 1 ≤ kind.toNat → kind.toNat ≤ 0x14 →
      lengthFits s.link.window kind payload = false →
      exec (.unknownCommand a kind payload) s = .next (replied kind .malformed [] s)) ∧
    ∀ code v4 v3 v2 v1 v0 : Byte,
      (2 ≤ code.toNat → exec (.unknownCommand a 0x09 [code]) s = .next (replied 0x09 .outOfRange [] s)) ∧
      (3 ≤ code.toNat → exec (.unknownCommand a 0x0D [code, v1, v0]) s = .next (replied 0x0D .outOfRange [] s)) ∧
      (code.toNat = 0 ∨ 14 ≤ code.toNat →
        exec (.unknownCommand a 0x12 [code, v4, v3, v2, v1, v0]) s = .next (replied 0x12 .outOfRange [] s)) ∧
      (4 ≤ code.toNat →
        exec (.window a [code, v4, v3, v2, v1, v0]) s = .next (replied 0x0A .outOfRange [] s))

/-- A command to the individual address is answered once, with its own KIND, in its own event, which leaves the mill clock
as it is but for a RESTART that ends in a warm reset at once: a refused one changes nothing and carries the result alone, a
taken one other than POLL, WINDOW, PUT and GET closes the table window, and POLL leaves it (R30, R158, R169, R170). -/
def Obligations.RefusedChangesNothingTakenClosesTheWindow : Prop :=
  ∀ (s t : State) (addr kind : Byte) (payload : List Byte), Heard s addr → payload.length ≤ 200 → kind.msb = false →
    exec (.unknownCommand addr kind payload) s = .next t →
    ∃ (result : Result) (answer : List Byte),
      t.link.tx = .turnaround ⟨kind, result, answer⟩ t.clk.now ∧ (kind ≠ 0x07 → t.clk.now = s.clk.now) ∧
      (result.taken = false → answer = [] ∧ t = replied kind result [] s) ∧
      (result.taken = true → kind ≠ 0x01 → kind ≠ 0x0A → kind ≠ 0x0B → kind ≠ 0x0C → t.link.window = none) ∧
      (kind = 0x01 → t.link.window = s.link.window)

/-- The operating state changes only with the table window closed; RUN is entered only from STANDBY with ESTOP released,
no restart pending, the cold flag clear and the WORKING bank loaded, a warm reset that is owed coming first; and the cold flag,
once clear, is set again only by a cold reset (R30, R147, R149, R150, R162). No command changes the queue of commands, which is
the model's own. -/
def Obligations.StateChangesAreGuarded : Prop :=
  ∀ (c : Instr) (s t : State), exec c s = .next t → t.pending = s.pending ∧
    (c ≠ .rstnLow → s.ctl.cold = false → t.ctl.cold = false) ∧
    (OneFrame c s → t.ctl.op ≠ s.ctl.op →
      t.link.window = none ∧
      (t.ctl.op = .run → ∃ u : State, (u = s ∨ (s.ctl.resetDue = true ∧ exec .warmReset s = .next u)) ∧
        u.ctl.op = .standby ∧ u.ctl.estop = false ∧ u.clk.pendingRestart = false ∧ u.ctl.cold = false ∧
        (u.banks.data u.banks.working).loaded = ⟨true, true, true, true⟩))

/-! ### Commands -/

/-- POLL answers with the POLL record and disarms a part that is pulling ATTN; NOTICES answers with the eleven records and
clears them; REARM arms the part and judges ATTN. A notice that is set becomes pending, its count rises to at most 255, its
mask gains the event's chute, and ATTN is judged (R173, R174, R175, R176, R177, R178). -/
def Obligations.PollNoticesAndRearm : Prop :=
  (∀ (s : State) (addr : Byte), Heard s addr →
    (∃ (t : State) (b0 b1 b2 b3 b4 b5 b6 b7 b8 b9 b10 b11 b12 b13 b14 : Byte),
      t = (if s.notices.attn then { s with notices := { s.notices with armed := false, attn := false } } else s) ∧
      exec (.poll addr []) s
        = .next (replied 0x01 .done [b0, b1, b2, b3, b4, b5, b6, b7, b8, b9, b10, b11, b12, b13, b14] t) ∧
      b0 = (match s.ctl.op with | .standby => 0 | .run => 1 | .purge => 2 | .windDown => 3 | .halt => 4) ∧
      b1.getLsbD 0 = s.ctl.cold ∧ b1.getLsbD 1 = s.ctl.dry ∧ b1.getLsbD 2 = s.ctl.estop ∧
      b1.getLsbD 3 = s.ctl.airlow ∧ b1.getLsbD 4 = s.notices.attn ∧ b1.toNat < 32 ∧
      (∀ k : NoticeKind, (num16 b2 b3).testBit k.place = (s.notices.record k).pending) ∧ num16 b2 b3 < 2048 ∧
      (∀ h : Chute, (b4.getLsbD h.val = true ↔ (s.busOf h).active = .b)) ∧ b4.toNat < 16 ∧
      (let f := (s.banks.data s.banks.working).loaded
       b5.getLsbD 0 = f.columnMap ∧ b5.getLsbD 1 = f.chute ∧ b5.getLsbD 2 = f.cls ∧ b5.getLsbD 3 = f.pulse) ∧
      (let f := (s.banks.data (otherBank s.banks.working)).loaded
       b5.getLsbD 4 = f.columnMap ∧ b5.getLsbD 5 = f.chute ∧ b5.getLsbD 6 = f.cls ∧ b5.getLsbD 7 = f.pulse) ∧
      (s.banks.pendingSwap = none → b6 = 0 ∧ num16 b7 b8 = 0) ∧
      (∀ l, s.banks.pendingSwap = some l → b6 = 1 ∧ num16 b7 b8 = l.toNat) ∧
      num16 b9 b10 = s.clk.line.toNat ∧ num32 b11 b12 b13 b14 = s.clk.now.toNat) ∧
    exec (.notices addr []) s = .next (replied 0x02 .done
      (noticeKinds.flatMap fun k =>
        let r := s.notices.record k
        [if r.pending then 1 else 0, BitVec.ofNat 8 r.count, 0#4 ++ r.mask])
      { s with
        link := { s.link with window := none }
        notices := { s.notices with records := [], attn := false } }) ∧
    exec (.rearm addr []) s = .next (replied 0x03 .done []
      { s with
        link := { s.link with window := none }
        notices := { s.notices with
          armed := true
          attn := noticeKinds.any fun k => (s.notices.record k).pending && !s.settings.noticeMask.getLsbD k.place } })) ∧
  ∀ (n : NoticeTable) (mask : BitVec 11) (k : NoticeKind) (event : Option Chute),
    let u := n.set mask k event
    (u.record k).pending = true ∧ (u.record k).count = min ((n.record k).count + 1) 255 ∧
    (∀ h : Chute, (u.record k).mask.getLsbD h.val = ((n.record k).mask.getLsbD h.val || decide (event = some h))) ∧
    (∀ k', k' ≠ k → u.record k' = n.record k') ∧ u.armed = n.armed ∧
    u.attn = (n.armed && noticeKinds.any fun k => (u.record k).pending && !mask.getLsbD k.place)

/-- GO RUN with its checks in order; RESTART, which ends in the same event where there is nothing to finish; CLEAR COLD
(R149, R150, R158, R159). -/
def Obligations.GoRunRestartAndClearCold : Prop :=
  ∀ (s : State) (addr : Byte), Heard s addr →
    exec (.goRun addr []) s = .next
      (if s.ctl.op ≠ .standby ∨ s.ctl.estop = true ∨ s.clk.pendingRestart = true then replied 0x04 .notNow [] s
      else if s.ctl.cold = true then replied 0x04 .cold [] s
      else if (s.banks.data s.banks.working).loaded ≠ ⟨true, true, true, true⟩ then replied 0x04 .notLoaded [] s
      else replied 0x04 .done []
        { s with ctl := { s.ctl with op := .run }, link := { s.link with window := none } }) ∧
    exec (.restart addr []) s = .next
      (if s.ctl.op = .windDown then replied 0x07 .notNow [] s
      else replied 0x07 .done [] (endWindDown { s with
        ctl := { s.ctl with
          op := .windDown
          purge := none
          windDown := some ⟨.draining, s.clk.now + BitVec.ofNat 32 (1000 * s.settings.windDownLimit)⟩ }
        link := { s.link with window := none } })) ∧
    exec (.clearCold addr []) s = .next (replied 0x08 .done []
      { s with ctl := { s.ctl with cold := false }, link := { s.link with window := none } })

/-- GO STANDBY in each operating state: from RUN it abandons the pending sightings and the WAITING entries of sightings, from
PURGE the purge and its WAITING entries, from HALT it needs ESTOP released (R76, R91, R151, R152). -/
def Obligations.GoStandbyGivesUpTheWork : Prop :=
  ∀ (s : State) (addr : Byte), Heard s addr → Tab.wf [] s.firing.queues = true →
    (s.ctl.op = .standby → exec (.goStandby addr []) s = .next
      (replied 0x05 .done [] { s with link := { s.link with window := none } })) ∧
    (s.ctl.op = .windDown ∨ (s.ctl.op = .halt ∧ s.ctl.estop = true) →
      exec (.goStandby addr []) s = .next (replied 0x05 .notNow [] s)) ∧
    (s.ctl.op = .halt → s.ctl.estop = false → exec (.goStandby addr []) s = .next (replied 0x05 .done []
      { s with ctl := { s.ctl with op := .standby }, link := { s.link with window := none } })) ∧
    (s.ctl.op = .run → ∃ t : State, exec (.goStandby addr []) s = .next (replied 0x05 .done [] t) ∧
      t.ctl = { s.ctl with op := .standby } ∧ t.link = { s.link with window := none } ∧
      t.planner = none ∧ t.port = { s.port with intake := [], hold := false } ∧
      t.verdicts = ⟨[], PerChute.const []⟩ ∧
      (∀ g, t.queue g = (s.queue g).filter fun e => !(e.phase == .waiting && e.origin == .sighting)) ∧
      (∀ h, (t.tally.chutes.get h) = (s.tally.chutes.get h).add .firingsAbandoned
        (countEntries s h fun e => e.phase == .waiting && e.origin == .sighting)) ∧
      (ClassesInRange s → ∀ (h : Chute) (k : Nat), k < 16 →
        t.tally.sighting h k = { s.tally.sighting h k with
          abandoned := if pendingCount s h k = 0 then (s.tally.sighting h k).abandoned
            else min ((s.tally.sighting h k).abandoned + pendingCount s h k) 4294967295 }) ∧
      t.banks = { s.banks with
        lastSwap := if s.planner.isSome && s.banks.settleHeld then none else s.banks.lastSwap
        settleHeld := s.banks.settleHeld && s.planner.isNone } ∧
      t = { s with
        ctl := t.ctl, link := t.link, planner := t.planner, port := t.port, verdicts := t.verdicts
        firing := { s.firing with queues := t.firing.queues }, tally := t.tally, banks := t.banks }) ∧
    (s.ctl.op = .purge → ∃ t : State, exec (.goStandby addr []) s = .next (replied 0x05 .done [] t) ∧
      t.ctl = { s.ctl with op := .standby, purge := none } ∧ t.link = { s.link with window := none } ∧
      (∀ g, t.queue g = (s.queue g).filter fun e => !(e.phase == .waiting && e.origin == .purge)) ∧
      (∀ h, (t.tally.chutes.get h) = (s.tally.chutes.get h).add .firingsAbandoned
        (countEntries s h fun e => e.phase == .waiting && e.origin == .purge)) ∧
      t = { s with
        ctl := t.ctl, link := t.link, firing := { s.firing with queues := t.firing.queues }
        tally := { s.tally with chutes := t.tally.chutes } })

/-- PURGE clamps its operands, creates the purge record and makes turn 0; DRY ON makes the part go dry, or dry at once with
no WET record; DRY OFF clears both (R106, R107, R153, R163). -/
def Obligations.PurgeAndDryCommands : Prop :=
  ∀ (s : State) (addr r w1 w0 sp1 sp0 : Byte), Heard s addr → s.settings.widthMin ≤ s.settings.widthCap →
    (s.ctl.op ≠ .standby ∨ s.ctl.estop = true →
      exec (.purge addr [r, w1, w0, sp1, sp0]) s = .next (replied 0x06 .notNow [] s)) ∧
    (s.ctl.op = .standby → s.ctl.estop = false →
      let rounds := max 1 (min 16 r.toNat)
      let width := max s.settings.widthMin (min s.settings.widthCap (num16 w1 w0))
      let spacing := max 1000 (min 50000 (num16 sp1 sp0))
      exec (.purge addr [r, w1, w0, sp1, sp0]) s = .next (replied 0x06
        (if rounds = r.toNat ∧ width = num16 w1 w0 ∧ spacing = num16 sp1 sp0 then .done else .clamped)
        (BitVec.ofNat 8 rounds :: (bytes16 width ++ bytes16 spacing))
        (let p : Purge := ⟨width, spacing, 40 * rounds, 0, s.clk.now, false, []⟩
         makeTurn p { s with
           ctl := { s.ctl with op := .purge, purge := some p }
           link := { s.link with window := none } }))) ∧
    (s.ctl.op = .windDown ∨ s.ctl.op = .halt →
      exec (.dryOn addr []) s = .next (replied 0x09 .notNow [] s) ∧
      exec (.dryOff addr []) s = .next (replied 0x09 .notNow [] s)) ∧
    (s.ctl.op ≠ .windDown → s.ctl.op ≠ .halt →
      exec (.dryOn addr []) s = .next (replied 0x09 .done [] { s with
        ctl := if s.ctl.goingDry || s.ctl.dry then s.ctl
          else if anyWet s then { s.ctl with goingDry := true } else { s.ctl with dry := true, goingDry := false }
        link := { s.link with window := none } }) ∧
      exec (.dryOff addr []) s = .next (replied 0x09 .done [] { s with
        ctl := { s.ctl with goingDry := false, dry := false }
        link := { s.link with window := none } }))

/-- WINDOW opens a window after its checks and clears the loaded flag for a full PUT window; PUT writes one entry at the
position, GET reads one, and both advance it (R26, R27, R28, R29). An entry's bytes are
read by the layout of its table, each field clamped to its range and CLAMPED answered where one was, and an entry as stored is
sent in the same layout (R21, R22, R23, R24, R28, R185). -/
def Obligations.WindowPutAndGet : Prop :=
  (∀ (s : State) (addr : Byte), Heard s addr →
    (∀ (code flags f1 f0 l1 l0 : Byte) (table : TableId), tableOf code = some table →
      let staging := flags.getLsbD 0
      let put := flags.getLsbD 1
      let first := num16 f1 f0
      let last := num16 l1 l0
      exec (.window addr [code, flags, f1, f0, l1, l0]) s = .next
        (if last < first ∨ finalIndex table < last then replied 0x0A .outOfRange [] s
        else if put = true ∧ (s.ctl.op = .windDown ∨ (staging = false ∧ s.ctl.op ≠ .standby)) then
          replied 0x0A .notNow [] s
        else if put = true ∧ staging = true ∧ (s.banks.pendingSwap.isSome = true ∨ s.banks.lastSwap.isSome = true) then
          replied 0x0A .settling [] s
        else
          let bank := if staging then otherBank s.banks.working else s.banks.working
          let d := s.banks.data bank
          replied 0x0A .done [] { s with
            link := { s.link with
              window := some ⟨table, bank, first, last, if put then .put else .get, first⟩ }
            banks := if put = true ∧ first = 0 ∧ last = finalIndex table then
                s.banks.setData bank { d with loaded := d.loaded.put table false }
              else s.banks })) ∧
    (∀ (w : Window) (payload : List Byte) (e : TableEntry) (replaced : Bool), s.link.window = some w → w.dir = .put →
      readEntry w.table payload = some (e, replaced) →
      ∃ t : State, exec (.put addr payload) s = .next
          (replied 0x0B (if replaced then .clamped else .done) (bytes16 w.pos ++ entryBytes e) t) ∧
        (t.banks.data w.bank).read w.table w.pos = e ∧
        (∀ i, i ≠ w.pos → (t.banks.data w.bank).read w.table i = (s.banks.data w.bank).read w.table i) ∧
        (∀ tab i, tab ≠ w.table → (t.banks.data w.bank).read tab i = (s.banks.data w.bank).read tab i) ∧
        (∀ b, b ≠ w.bank → t.banks.data b = s.banks.data b) ∧
        (t.banks.data w.bank).loaded =
          (if w.first = 0 ∧ w.last = finalIndex w.table ∧ w.pos = finalIndex w.table then
            (s.banks.data w.bank).loaded.put w.table true
          else (s.banks.data w.bank).loaded) ∧
        t = { s with
          banks := { s.banks with x := t.banks.x, y := t.banks.y }
          link := { s.link with window := some { w with pos := if w.pos = w.last then w.first else w.pos + 1 } } }) ∧
    (∀ (w : Window), s.link.window = some w → w.dir = .get →
      exec (.get addr []) s = .next (replied 0x0C .done
        (bytes16 w.pos ++ entryBytes ((s.banks.data w.bank).read w.table w.pos))
        { s with link := { s.link with
          window := some { w with pos := if w.pos = w.last then w.first else w.pos + 1 } } })) ∧
    ((∀ w, s.link.window = some w → w.dir = .get) →
      ∀ payload : List Byte, payload.length = 2 ∨ payload.length = 5 ∨ payload.length = 11 →
        exec (.put addr payload) s = .next (replied 0x0B .noWindow [] s)) ∧
    ((∀ w, s.link.window = some w → w.dir = .put) →
      exec (.get addr []) s = .next (replied 0x0C .noWindow [] s))) ∧
  (tableOf 0 = some .columnMap ∧ tableOf 1 = some .chute ∧ tableOf 2 = some .cls ∧ tableOf 3 = some .pulse ∧
    finalIndex .columnMap = 2559 ∧ finalIndex .chute = 3 ∧ finalIndex .cls = 15 ∧ finalIndex .pulse = 127) ∧
  (∀ p a : Byte,
    let number := fun b : Byte => if b.toNat < 40 then some b.toNat else none
    readEntry .columnMap [p, a] = some (.columnMap ⟨number p, number a⟩, false)) ∧
  (∀ f1 f0 t1 t0 r x1 x0 y1 y0 cap learn : Byte,
    let kept := 2000 ≤ num16 f1 f0 ∧ num16 f1 f0 ≤ 60000 ∧ -512 ≤ signed16 t1 t0 ∧ signed16 t1 t0 ≤ 511 ∧
      -16 ≤ r.toInt ∧ r.toInt ≤ 16 ∧ num16 x1 x0 ≤ 639 ∧ num16 y1 y0 ≤ 639 ∧ 1 ≤ cap.toNat ∧ cap.toNat ≤ 40
    readEntry .chute [f1, f0, t1, t0, r, x1, x0, y1, y0, cap, learn] = some (.chute
      { flight := max 2000 (min 60000 (num16 f1 f0))
        trim := max (-512) (min 511 (signed16 t1 t0))
        lag := max (-16) (min 16 r.toInt)
        bandFirst := min 639 (num16 x1 x0)
        bandLast := min 639 (num16 y1 y0)
        airCap := max 1 (min 40 cap.toNat)
        learning := learn.getLsbD 0 }, !decide kept)) ∧
  (∀ o1 o0 p th d : Byte,
    let kept := -2000 ≤ signed16 o1 o0 ∧ signed16 o1 o0 ≤ 2000 ∧ p.toNat ≤ 7 ∧ d.toNat ≤ 1
    readEntry .cls [o1, o0, p, th, d] = some (.cls
      { offset := max (-2000) (min 2000 (signed16 o1 o0))
        prio := min 7 p.toNat
        threshold := th.toNat
        policy := if d = 1 then .fire else .pass }, !decide kept)) ∧
  (∀ w1 w0 : Byte,
    readEntry .pulse [w1, w0] = some (.pulse (min 10000 (num16 w1 w0)), !decide (num16 w1 w0 ≤ 10000))) ∧
  ∀ (table : TableId) (payload : List Byte) (e : TableEntry) (replaced : Bool),
    readEntry table payload = some (e, replaced) → readEntry table (entryBytes e) = some (e, false)

/-- SWAP at a line and at the next line with their checks in order, the line resolved against N, and SWAP CANCEL (R31). -/
def Obligations.SwapCommandsSetThePendingLine : Prop :=
  ∀ (s : State) (addr l1 l0 : Byte), Heard s addr →
    let request := fun (line : Line) =>
      if s.ctl.op ≠ .standby ∧ s.ctl.op ≠ .run then replied 0x0D .notNow [] s
      else if s.banks.lastSwap.isSome = true then replied 0x0D .settling [] s
      else if (s.banks.data (otherBank s.banks.working)).loaded ≠ ⟨true, true, true, true⟩ then
        replied 0x0D .notLoaded [] s
      else replied 0x0D .done (bytes16 line.toNat) { s with
        banks := { s.banks with pendingSwap := some line }, link := { s.link with window := none } }
    let d := (BitVec.ofNat 16 (num16 l1 l0) - s.clk.line).toNat
    exec (.swapAtLine addr [l1, l0]) s = .next
      (request (if 1 ≤ d ∧ d ≤ 32768 then BitVec.ofNat 16 (num16 l1 l0) else s.clk.line + 1)) ∧
    exec (.swapAtNextLine addr [l1, l0]) s = .next (request (s.clk.line + 1)) ∧
    exec (.swapCancel addr [l1, l0]) s = .next
      (if s.ctl.op = .windDown then replied 0x0D .notNow [] s
      else replied 0x0D .done [] { s with
        banks := { s.banks with pendingSwap := none }, link := { s.link with window := none } })

/-- NOZZLE READ answers with the record and its queue's count and earliest phase; NOZZLE WRITE with its checks in order
writes the fields that its presence byte names, its spare bits being ignored, and a nozzle masked out of service loses its
WAITING entries, with which going dry or a purge may end (R64, R74, R135, R137, R138, R139, R140, R155, R185, R186). -/
def Obligations.NozzleReadAndWrite : Prop :=
  (∀ (s : State) (addr g : Byte), Heard s addr →
    exec (.nozzleRead addr [g]) s = .next
      (if g.toNat < 160 then replied 0x0E .done (nozzleBytes g.toNat (s.nozzle g.toNat) (s.queue g.toNat))
        { s with link := { s.link with window := none } }
      else replied 0x0E .outOfRange [] s) ∧
    ∀ (presence : Byte) (state : Option Byte) (off lat : Option (Byte × Byte)) (wear : Option (Byte × Byte × Byte × Byte)),
      presence.getLsbD 0 = state.isSome → presence.getLsbD 1 = off.isSome → presence.getLsbD 2 = lat.isSome →
      presence.getLsbD 3 = wear.isSome →
      let fields := state.toList ++ (off.toList.flatMap fun x => [x.1, x.2]) ++ (lat.toList.flatMap fun x => [x.1, x.2])
        ++ wear.toList.flatMap fun x => [x.1, x.2.1, x.2.2.1, x.2.2.2]
      let r := s.nozzle g.toNat
      let r' : NozzleRecord :=
        { r with
          state := match state with
            | some code => if code = 1 then .masked else .inService
            | none => r.state
          misses := if state = some 0 ∧ r.state = .masked then 0 else r.misses
          cause := if state = some 0 ∧ r.state = .masked then .none else r.cause
          offset := (off.map fun x => max (-255) (min 255 (signed16 x.1 x.2))).getD r.offset
          latency := (lat.map fun x => min 4095 (num16 x.1 x.2)).getD r.latency
          wear := (wear.map fun x => num32 x.1 x.2.1 x.2.2.1 x.2.2.2).getD r.wear }
      let leaves := r.state = .inService ∧ state = some 1
      let waiting := fun e : Entry => e.phase == .waiting
      exec (.nozzleWrite addr (g :: presence :: fields)) s = .next
        (if 160 ≤ g.toNat ∨ ∃ code ∈ state, code ≠ 0 ∧ code ≠ 1 then replied 0x0F .outOfRange [] s
        else if s.ctl.op = .windDown ∨ (s.ctl.op = .halt ∧ (off ≠ none ∨ lat ≠ none)) then replied 0x0F .notNow [] s
        else if state = some 0 ∧ r.state = .failed then replied 0x0F .notNow [] s
        else
          let t : State := { s with
            nozzles := Tab.set .cold s.nozzles g.toNat r'
            firing := if leaves then { s.firing with
                queues := Tab.set [] s.firing.queues g.toNat ((s.queue g.toNat).filter fun e => !waiting e) }
              else s.firing
            tally := if leaves then
                s.tally.countChute (chuteOf g.toNat) .firingsAbandoned ((s.queue g.toNat).countP waiting)
              else s.tally
            link := { s.link with window := none } }
          let u := if leaves then conclude t else t
          let kept := (∀ x ∈ off, -255 ≤ signed16 x.1 x.2 ∧ signed16 x.1 x.2 ≤ 255) ∧
            ∀ x ∈ lat, num16 x.1 x.2 ≤ 4095
          replied 0x0F (if kept then .done else .clamped) (nozzleBytes g.toNat r' (t.queue g.toNat)) u)) ∧
  ∀ (g : Nat) (r : NozzleRecord) (q : List Entry), nozzleBytes g r q =
    [BitVec.ofNat 8 g, match r.state with | .inService => 0 | .masked => 1 | .failed => 2]
      ++ bytes16 (BitVec.ofInt 16 r.offset).toNat ++ bytes16 r.latency ++ bytes32 r.wear
      ++ [BitVec.ofNat 8 r.misses, match r.lastResult with | .none => 0 | .done => 1 | .noReply => 2 | .coilFault => 3]
      ++ bytes16 r.lastLatency
      ++ [match r.cause with | .none => 0 | .misses => 1 | .openCoilFault => 2 | .closeNotConfirmed => 3,
        BitVec.ofNat 8 q.length,
        match (q.head?.map (·.phase) : Option Phase) with
          | none => 0 | some .waiting => 1 | some .opening => 2 | some .opened => 3 | some .closing => 4]

/-- TEST with its checks in order places one WAITING firing at now + LEAD MIN; LANE sets a chute's active lane (R125, R143,
R144). -/
def Obligations.TestAndLane : Prop :=
  ∀ (s : State) (addr g w1 w0 c l : Byte), Heard s addr → s.settings.widthMin ≤ s.settings.widthCap →
    exec (.test addr [g, w1, w0]) s = .next
      (if 160 ≤ g.toNat then replied 0x10 .outOfRange [] s
      else if s.ctl.op ≠ .standby ∨ (s.nozzle g.toNat).state ≠ .inService ∨ s.queue g.toNat ≠ [] then
        replied 0x10 .notNow [] s
      else
        let width := max s.settings.widthMin (min s.settings.widthCap (num16 w1 w0))
        let start := s.clk.now + BitVec.ofNat 32 s.settings.leadMin
        let stop := start + BitVec.ofNat 32 width
        replied 0x10 (if width = num16 w1 w0 then .done else .clamped) (bytes32 start.toNat ++ bytes32 stop.toNat)
          { s with
            firing := { s.firing with
              queues := Tab.set [] s.firing.queues g.toNat
                [⟨s.firing.nextIdent, start, stop, 0, .test, .waiting, none⟩]
              nextIdent := s.firing.nextIdent + 1 }
            link := { s.link with window := none } }) ∧
    (∀ h : Chute, c.toNat = h.val →
      (l = 0 → exec (.lane addr [c, l]) s = .next (replied 0x11 .done [] { s with
        bus := s.bus.set h { s.busOf h with active := .a }, link := { s.link with window := none } })) ∧
      (l = 1 → exec (.lane addr [c, l]) s = .next (replied 0x11 .done [] { s with
        bus := s.bus.set h { s.busOf h with active := .b }, link := { s.link with window := none } }))) ∧
    (4 ≤ c.toNat ∨ 2 ≤ l.toNat → exec (.lane addr [c, l]) s = .next (replied 0x11 .outOfRange [] s))

/-- SET of the numeric settings: refused with NOT NOW outside the condition of the table of 10.3, else the value is clamped
to its range, stored and reported; a SET of LINE PERIOD always asks for a restart (R7, R37, R171). The chute byte 0 of the
replies of settings without a chute is the model's reading (notes/assumptions/17). -/
def Obligations.NumericSettingsAreClampedAndStored : Prop :=
  ∀ (s : State) (addr c v3 v2 v1 v0 : Byte), Heard s addr → SettingsInRange s →
    let v := num32 v3 v2 v1 v0
    let rest := [c, v3, v2, v1, v0]
    let t := s.settings
    let standby := s.ctl.op = .standby
    let idle := ∀ p ∈ s.firing.queues, p.2 = []
    let notNow := replied 0x12 .notNow [] s
    let value := fun lo hi : Nat => max lo (min hi v)
    exec (.setAirTrim addr rest) s = .next (if s.ctl.op = .windDown then notNow
      else settingReply 1 0 0 127 v { s with settings := { t with airTrim := value 0 127 } }) ∧
    exec (.setLinePeriod addr rest) s = .next (if standby ∧ idle then
        settingReply 2 0 50 2000 v { s with clk := { s.clk with period := value 50 2000, pendingRestart := true } }
      else notNow) ∧
    exec (.setMaxAge addr rest) s = .next
      (if standby ∧ s.banks.pendingSwap = none ∧ s.banks.lastSwap = none then
        settingReply 3 0 16 1024 v { s with settings := { t with maxAge := value 16 1024 } }
      else notNow) ∧
    exec (.setLeadMin addr rest) s = .next (if standby then
        settingReply 4 0 100 2000 v { s with settings := { t with leadMin := value 100 2000 } }
      else notNow) ∧
    exec (.setWidthMin addr rest) s = .next (if standby ∧ idle then
        settingReply 5 0 200 (min 2000 t.widthMax) v
          { s with settings := { t with widthMin := value 200 (min 2000 t.widthMax) } }
      else notNow) ∧
    exec (.setWidthMax addr rest) s = .next (if standby ∧ idle then
        settingReply 6 0 t.widthMin (min 10000 t.widthCap) v
          { s with settings := { t with widthMax := value t.widthMin (min 10000 t.widthCap) } }
      else notNow) ∧
    exec (.setWidthCap addr rest) s = .next (if standby ∧ idle then
        settingReply 7 0 (max 2000 t.widthMax) 30000 v
          { s with settings := { t with widthCap := value (max 2000 t.widthMax) 30000 } }
      else notNow) ∧
    (∀ h : Chute, c.toNat = h.val → exec (.setValveGap addr rest) s = .next
      (if standby ∧ ∀ p ∈ s.firing.queues, chuteOf p.1 = h → p.2 = [] then
        settingReply 8 c 200 5000 v { s with settings := { t with valveGap := t.valveGap.set h (value 200 5000) } }
      else notNow)) ∧
    (4 ≤ c.toNat → exec (.setValveGap addr rest) s = .next (replied 0x12 .outOfRange [] s)) ∧
    exec (.setReplyWait addr rest) s = .next (if standby then
        settingReply 9 0 0 3 v { s with settings := { t with replyWait := value 0 3 } }
      else notNow) ∧
    exec (.setMissLimit addr rest) s = .next (if s.ctl.op = .windDown then notNow
      else settingReply 10 0 1 15 v { s with settings := { t with missLimit := value 1 15 } }) ∧
    exec (.setWindDownLimit addr rest) s = .next (if s.ctl.op = .windDown then notNow
      else settingReply 11 0 20 500 v { s with settings := { t with windDownLimit := value 20 500 } })

/-- SET of GROUP ADDRESS and of NOTICE MASK, and QUERY of every setting (R171, R172, R176). The chute byte 0 of the replies of
settings without a chute is the model's reading (notes/assumptions/17). -/
def Obligations.GroupMaskAndQuery : Prop :=
  ∀ (s : State) (addr c v3 v2 v1 v0 : Byte), Heard s addr →
    let v := num32 v3 v2 v1 v0
    let closed : ControlPort := { s.link with window := none }
    exec (.setGroupAddress addr [c, v3, v2, v1, v0]) s = .next
      (if v = 0 ∨ (33 ≤ v ∧ v ≤ 62) then replied 0x12 .done (12 :: 0 :: bytes32 v)
        { s with settings := { s.settings with group := BitVec.ofNat 8 v }, link := closed }
      else replied 0x12 .outOfRange [] s) ∧
    exec (.setNoticeMask addr [c, v3, v2, v1, v0]) s = .next (replied 0x12 .done (13 :: 0 :: bytes32 (v % 2048))
      { s with
        settings := { s.settings with noticeMask := BitVec.ofNat 11 v }
        notices := { s.notices with attn := s.notices.armed && noticeKinds.any fun k =>
          (s.notices.record k).pending && !v.testBit k.place }
        link := closed }) ∧
    (∀ (id : Byte) (n : Nat),
      (id, n) ∈ [((1 : Byte), s.settings.airTrim), (2, s.clk.period), (3, s.settings.maxAge), (4, s.settings.leadMin),
        (5, s.settings.widthMin), (6, s.settings.widthMax), (7, s.settings.widthCap), (9, s.settings.replyWait),
        (10, s.settings.missLimit), (11, s.settings.windDownLimit), (12, s.settings.group.toNat),
        (13, s.settings.noticeMask.toNat)] →
      exec (.query addr [id, c]) s = .next (replied 0x13 .done (id :: 0 :: bytes32 n) { s with link := closed })) ∧
    (∀ h : Chute, c.toNat = h.val → exec (.query addr [8, c]) s = .next
      (replied 0x13 .done (8 :: c :: bytes32 (s.settings.valveGap.get h)) { s with link := closed })) ∧
    (4 ≤ c.toNat → exec (.query addr [8, c]) s = .next (replied 0x13 .outOfRange [] s)) ∧
    (∀ id : Byte, id = 0 ∨ 14 ≤ id.toNat → exec (.query addr [id, c]) s = .next (replied 0x13 .outOfRange [] s))

/-- TALLY answers with every counter of the named record, and the pending count of a sighting record; a clear sets every
counter to 0 but SEEN, which becomes the pending count (R182). A counter rises to at most 4,294,967,295, and no other counter
with it (R180). -/
def Obligations.TallyReadsAndClears : Prop :=
  (∀ (s : State) (addr c sel clear : Byte), Heard s addr →
    let closed : ControlPort := { s.link with window := none }
    (clear.toNat ≤ 1 →
      (∀ h : Chute, c.toNat = h.val →
        (sel.toNat ≤ 15 → exec (.tally addr [c, sel, clear]) s = .next (replied 0x14 .done
          ([c, sel, clear] ++ ((s.tally.sighting h sel.toNat).list.flatMap bytes32
            ++ [BitVec.ofNat 8 (pendingCount s h sel.toNat)]))
          { s with
            link := closed
            tally := if clear = 1 then
                s.tally.setSighting h sel.toNat ⟨pendingCount s h sel.toNat, 0, 0, 0, 0, 0, 0, 0, 0, 0, 0⟩
              else s.tally })) ∧
        (sel = 16 → exec (.tally addr [c, sel, clear]) s = .next (replied 0x14 .done
          ([c, sel, clear] ++ (s.tally.chutes.get h).list.flatMap bytes32)
          { s with
            link := closed
            tally := if clear = 1 then
                { s.tally with chutes := s.tally.chutes.set h ⟨0, 0, 0, 0, 0, 0, 0, 0, 0, 0, 0, 0, 0⟩ }
              else s.tally }))) ∧
      (sel = 17 → exec (.tally addr [c, sel, clear]) s = .next (replied 0x14 .done
        ([c, sel, clear] ++ bytes32 s.tally.link.linkErrors ++ bytes32 s.tally.link.controlErrors)
        { s with
          link := closed
          tally := if clear = 1 then { s.tally with link := ⟨0, 0⟩ } else s.tally }))) ∧
    (1 < clear.toNat ∨ 18 ≤ sel.toNat ∨ (4 ≤ c.toNat ∧ sel.toNat ≤ 16) →
      exec (.tally addr [c, sel, clear]) s = .next (replied 0x14 .outOfRange [] s))) ∧
  (∀ (t : TallyTable) (h : Chute) (k : Nat) (counter : SightingCounter), k < 16 →
    let u := t.countSighting h k counter
    (u.sighting h k).get counter = min ((t.sighting h k).get counter + 1) 4294967295 ∧
    (∀ other, other ≠ counter → (u.sighting h k).get other = (t.sighting h k).get other) ∧
    (∀ h' k', k' < 16 → ¬(h' = h ∧ k' = k) → u.sighting h' k' = t.sighting h' k') ∧
    u.chutes = t.chutes ∧ u.link = t.link) ∧
  ∀ (t : TallyTable) (h : Chute) (counter : ChuteCounter) (n : Nat),
    let u := t.countChute h counter n
    (u.chutes.get h).get counter = min ((t.chutes.get h).get counter + n) 4294967295 ∧
    (∀ other, other ≠ counter → (u.chutes.get h).get other = (t.chutes.get h).get other) ∧
    (∀ h', h' ≠ h → u.chutes.get h' = t.chutes.get h') ∧ u.sightings = t.sightings ∧ u.link = t.link

/-! ### Invariants that every step keeps -/

/-- Every step leaves ATTN judged: pulled exactly while armed with an unmasked kind pending (R176). -/
def Obligations.StepKeepsAttnJudged : Prop :=
  ∀ s t : State, AttnJudged s → step s = .next t → AttnJudged t

/-- Every step keeps every sparse table in its canonical form. The form is the model's own, no rule of the manual's
(notes/assumptions/19). -/
def Obligations.StepKeepsTablesCanonical : Prop :=
  ∀ s t : State, TablesCanonical s → step s = .next t → TablesCanonical t

/-- Every step keeps every setting in its range with WIDTH MIN ≤ WIDTH MAX ≤ WIDTH CAP, and every nozzle record in its
ranges (R131, R134, R138, R171). -/
def Obligations.StepKeepsSettingsAndNozzlesInRange : Prop :=
  ∀ s t : State, SettingsInRange s → NozzlesInRange s → step s = .next t → SettingsInRange t ∧ NozzlesInRange t

/-- Every step keeps the intake, the held list, the rings, the queues and a partial record within their capacities, HOLD in
step with the intake, and no two held entries with one chute
and tag (R10, R13, R17, R61, R80, R87). The table of the queues is in its canonical form, the model's own (notes/assumptions/19). -/
def Obligations.StepKeepsWithinCapacity : Prop :=
  ∀ s t : State, WithinCapacity s → step s = .next t → WithinCapacity t

/-- From reset on, each sighting record that has no saturated counter balances: SEEN equals the eight outcomes plus the
pending sightings; it does at reset, and every step keeps it (R183). -/
def Obligations.StepKeepsTalliesBalanced : Prop :=
  TalliesBalance State.reset ∧ ∀ s t : State, TalliesBalance s → step s = .next t → TalliesBalance t

/-- Every step keeps a firing record with each started entry and with no WAITING one, each open count equal to the number of
the chute's OPENING and OPEN entries, no WET record while DRY is set, and one while going dry (R94, R106). That going dry ends in
the very event that discards the last WET record is the model's reading (notes/assumptions/6). -/
def Obligations.StepKeepsFiringsAccounted : Prop :=
  ∀ s t : State, FiringsAccounted s → step s = .next t → FiringsAccounted t

/-- Every step keeps every queue of a nozzle that is not IN SERVICE free of WAITING entries (R74). -/
def Obligations.StepKeepsWaitingInService : Prop :=
  ∀ s t : State, WaitingInService s → step s = .next t → WaitingInService t

/-- Every step keeps the wind-down record in WIND-DOWN alone and the purge record in PURGE alone, no sighting pending outside
RUN and WIND-DOWN, and the queues empty in HALT and while the part is held in reset; a wind-down has work left, a warm reset is
owed in HALT alone, no request waits at an idle bus, and a bus carries its own chute's commands (R112, R114, R115, R147, R148,
R151, R157, R159, R162). How a reset that is owed waits in HALT is the model's reading (notes/assumptions/7). -/
def Obligations.StepKeepsWorkFittingTheState : Prop :=
  ∀ s t : State, WorkFitsState s → step s = .next t → WorkFitsState t

/-- The reset state meets every invariant. -/
def Obligations.ResetMeetsTheInvariants : Prop :=
  AttnJudged State.reset ∧ TablesCanonical State.reset ∧ SettingsInRange State.reset ∧ NozzlesInRange State.reset ∧
    WithinCapacity State.reset ∧ TalliesBalance State.reset ∧ FiringsAccounted State.reset ∧
    WaitingInService State.reset ∧ WorkFitsState State.reset

end Statements
end

