-- ==== Sys2Proof/Laws/Table.lean ====
section
/-! SUPPORT. The sparse tables: a read after a write gives the value written, a write leaves every other index alone, and
every table operation keeps the canonical form; the four-chute records likewise. -/

namespace Sys2Proof.Machine

@[simp] theorem Tab.get_nil {α : Type} (d : α) (i : Nat) : Tab.get d [] i = d := rfl

theorem Tab.get_cons {α : Type} (d : α) (k : Nat) (v : α) (t : Tab α) (i : Nat) :
    Tab.get d ((k, v) :: t) i = if k = i then v else Tab.get d t i := rfl

theorem Tab.erase_cons {α : Type} (k : Nat) (v : α) (t : Tab α) (i : Nat) :
    Tab.erase ((k, v) :: t) i = if k = i then Tab.erase t i else (k, v) :: Tab.erase t i := by
  by_cases h : k = i <;> simp [Tab.erase, h]

theorem Tab.get_erase_same {α : Type} (d : α) (t : Tab α) (i : Nat) : Tab.get d (Tab.erase t i) i = d := by
  induction t with
  | nil => rfl
  | cons p t ih =>
    obtain ⟨k, v⟩ := p
    rw [Tab.erase_cons]
    split
    · exact ih
    · simp [Tab.get_cons, *]

theorem Tab.get_erase_other {α : Type} (d : α) (t : Tab α) {i j : Nat} (h : j ≠ i) :
    Tab.get d (Tab.erase t i) j = Tab.get d t j := by
  induction t with
  | nil => rfl
  | cons p t ih =>
    obtain ⟨k, v⟩ := p
    rw [Tab.erase_cons]
    split
    · rename_i hk; subst hk; simp [Tab.get_cons, ih, Ne.symm h]
    · simp [Tab.get_cons, ih]

theorem Tab.get_insert_same {α : Type} (d a : α) (t : Tab α) (i : Nat) (h : ∀ p ∈ t, p.1 ≠ i) :
    Tab.get d (Tab.insert i a t) i = a := by
  induction t with
  | nil => simp [Tab.insert, Tab.get_cons]
  | cons p t ih =>
    obtain ⟨k, v⟩ := p
    have hk : k ≠ i := h (k, v) (by simp)
    simp only [Tab.insert]
    split
    · simp [Tab.get_cons]
    · simp [Tab.get_cons, hk, ih fun q hq => h q (by simp [hq])]

theorem Tab.get_insert_other {α : Type} (d a : α) (t : Tab α) {i j : Nat} (h : j ≠ i) :
    Tab.get d (Tab.insert i a t) j = Tab.get d t j := by
  induction t with
  | nil => simp [Tab.insert, Tab.get_cons, Ne.symm h]
  | cons p t ih =>
    obtain ⟨k, v⟩ := p
    simp only [Tab.insert]
    split
    · simp [Tab.get_cons, Ne.symm h]
    · simp [Tab.get_cons, ih]

theorem Tab.mem_erase {α : Type} {t : Tab α} {i : Nat} {p : Nat × α} :
    p ∈ Tab.erase t i ↔ p ∈ t ∧ p.1 ≠ i := by simp [Tab.erase]

/-- A read after a write gives the value written. -/
@[simp] theorem Tab.get_set_same {α : Type} [DecidableEq α] (d a : α) (t : Tab α) (i : Nat) :
    Tab.get d (Tab.set d t i a) i = a := by
  unfold Tab.set
  split
  · rename_i h; rw [h]; exact Tab.get_erase_same d t i
  · exact Tab.get_insert_same d a _ i fun p hp => (Tab.mem_erase.1 hp).2

/-- A write leaves every other index alone. -/
theorem Tab.get_set_other {α : Type} [DecidableEq α] (d a : α) (t : Tab α) {i j : Nat} (h : j ≠ i) :
    Tab.get d (Tab.set d t i a) j = Tab.get d t j := by
  unfold Tab.set
  split
  · exact Tab.get_erase_other d t h
  · rw [Tab.get_insert_other d a _ h, Tab.get_erase_other d t h]

/-! ### The canonical form -/

/-- The indices of a canonical table rise, as a statement about pairs. -/
theorem Tab.rising_iff {α : Type} (t : Tab α) : Tab.rising t = true ↔ t.Pairwise (fun p q => p.1 < q.1) := by
  induction t with
  | nil => simp [Tab.rising]
  | cons p t ih =>
    cases t with
    | nil => simp [Tab.rising]
    | cons q t =>
      obtain ⟨k, v⟩ := p
      obtain ⟨k', v'⟩ := q
      simp only [Tab.rising, Bool.and_eq_true, decide_eq_true_eq, ih, List.pairwise_cons]
      refine ⟨fun ⟨h, h2, h3⟩ => ⟨?_, h2, h3⟩, fun ⟨h, h2, h3⟩ => ⟨h (k', v') (by simp), h2, h3⟩⟩
      intro r hr
      rcases List.mem_cons.1 hr with rfl | hr
      · exact h
      · exact Nat.lt_trans h (h2 r hr)

theorem Tab.wf_iff {α : Type} [DecidableEq α] (d : α) (t : Tab α) :
    Tab.wf d t = true ↔ t.Pairwise (fun p q => p.1 < q.1) ∧ ∀ p ∈ t, p.2 ≠ d := by
  simp [Tab.wf, Tab.rising_iff]

/-- The empty table is canonical. -/
@[simp] theorem Tab.wf_nil {α : Type} [DecidableEq α] (d : α) : Tab.wf d ([] : Tab α) = true := rfl

theorem Tab.mem_insert {α : Type} {i : Nat} {a : α} {t : Tab α} {p : Nat × α} :
    p ∈ Tab.insert i a t ↔ p = (i, a) ∨ p ∈ t := by
  induction t with
  | nil => simp [Tab.insert]
  | cons q t ih =>
    obtain ⟨k, v⟩ := q
    simp only [Tab.insert]
    split <;> simp [ih]
    tauto

theorem Tab.pairwise_insert {α : Type} {i : Nat} {a : α} {t : Tab α} (ht : t.Pairwise (fun p q => p.1 < q.1))
    (hi : ∀ p ∈ t, p.1 ≠ i) : (Tab.insert i a t).Pairwise (fun p q => p.1 < q.1) := by
  induction t with
  | nil => simp [Tab.insert]
  | cons q t ih =>
    obtain ⟨k, v⟩ := q
    have hk : k ≠ i := hi (k, v) (by simp)
    rw [List.pairwise_cons] at ht
    simp only [Tab.insert]
    split
    · rename_i hlt
      refine List.pairwise_cons.2 ⟨fun p hp => ?_, List.pairwise_cons.2 ht⟩
      rcases List.mem_cons.1 hp with rfl | hp
      · exact hlt
      · exact Nat.lt_trans hlt (ht.1 p hp)
    · rename_i hlt
      refine List.pairwise_cons.2 ⟨fun p hp => ?_, ih ht.2 fun p hp => hi p (by simp [hp])⟩
      rcases Tab.mem_insert.1 hp with rfl | hp
      · simp only; omega
      · exact ht.1 p hp

/-- A write keeps the canonical form. -/
theorem Tab.wf_set {α : Type} [DecidableEq α] {d : α} {t : Tab α} (h : Tab.wf d t = true) (i : Nat) (a : α) :
    Tab.wf d (Tab.set d t i a) = true := by
  rw [Tab.wf_iff] at h ⊢
  have he : (Tab.erase t i).Pairwise (fun p q => p.1 < q.1) := h.1.sublist List.filter_sublist
  unfold Tab.set
  split
  · exact ⟨he, fun p hp => h.2 p (Tab.mem_erase.1 hp).1⟩
  · refine ⟨Tab.pairwise_insert he fun p hp => (Tab.mem_erase.1 hp).2, fun p hp => ?_⟩
    rcases Tab.mem_insert.1 hp with rfl | hp
    · assumption
    · exact h.2 p (Tab.mem_erase.1 hp).1

/-- A map over the listed values keeps the canonical form. -/
theorem Tab.wf_mapListed {α : Type} [DecidableEq α] {d : α} {t : Tab α} (h : Tab.wf d t = true) (f : Nat → α → α) :
    Tab.wf d (Tab.mapListed d f t) = true := by
  rw [Tab.wf_iff] at h ⊢
  refine ⟨List.Pairwise.sublist List.filter_sublist (List.pairwise_map.2 h.1), fun p hp => ?_⟩
  simpa using (List.mem_filter.1 hp).2

/-- An index below every listed one reads as the default. -/
theorem Tab.get_of_below {α : Type} (d : α) (t : Tab α) {k : Nat} (h : ∀ q ∈ t, k < q.1) : Tab.get d t k = d := by
  induction t with
  | nil => rfl
  | cons q t ih =>
    obtain ⟨k', v'⟩ := q
    have : k < k' := h (k', v') (by simp)
    rw [Tab.get_cons, if_neg (by omega)]
    exact ih fun q hq => h q (by simp [hq])

/-- What a canonical table reads as after a map over its listed values that leaves the default alone. -/
theorem Tab.get_mapListed {α : Type} [DecidableEq α] {d : α} {t : Tab α} (h : Tab.wf d t = true) (f : Nat → α → α)
    (i : Nat) (hd : f i d = d) : Tab.get d (Tab.mapListed d f t) i = f i (Tab.get d t i) := by
  rw [Tab.wf_iff] at h
  obtain ⟨hp, hne⟩ := h
  induction t with
  | nil => simp [Tab.mapListed, hd]
  | cons p t ih =>
    obtain ⟨k, v⟩ := p
    rw [List.pairwise_cons] at hp
    have ih := ih hp.2 fun q hq => hne q (by simp [hq])
    have hcons : Tab.mapListed d f ((k, v) :: t)
        = if f k v = d then Tab.mapListed d f t else (k, f k v) :: Tab.mapListed d f t := by
      by_cases hv : f k v = d <;> simp [Tab.mapListed, hv]
    rw [hcons]
    by_cases hk : k = i
    · subst hk
      have hnone : Tab.get d t k = d := Tab.get_of_below d t fun q hq => hp.1 q hq
      rw [hnone, hd] at ih
      split
      · rename_i hv; rw [ih, Tab.get_cons, if_pos rfl, hv]
      · rw [Tab.get_cons, if_pos rfl, Tab.get_cons, if_pos rfl]
    · split
      · rw [ih, Tab.get_cons, if_neg hk]
      · rw [Tab.get_cons, if_neg hk, ih, Tab.get_cons, if_neg hk]

/-! ### The records of the four chutes -/

@[simp] theorem PerChute.get_const {α : Type} (a : α) (h : Chute) : (PerChute.const a).get h = a := by
  match h with
  | 0 | 1 | 2 | 3 => rfl

@[simp] theorem PerChute.get_set_same {α : Type} (p : PerChute α) (h : Chute) (a : α) : (p.set h a).get h = a := by
  match h with
  | 0 | 1 | 2 | 3 => rfl

theorem PerChute.get_set_other {α : Type} (p : PerChute α) (h k : Chute) (a : α) (hk : k ≠ h) :
    (p.set h a).get k = p.get k := by
  revert hk
  match h, k with
  | 0, 0 | 1, 1 | 2, 2 | 3, 3 => intro hk; exact absurd rfl hk
  | 0, 1 | 0, 2 | 0, 3 | 1, 0 | 1, 2 | 1, 3 | 2, 0 | 2, 1 | 2, 3 | 3, 0 | 3, 1 | 3, 2 => intro _; rfl

@[simp] theorem PerChute.set_set {α : Type} (p : PerChute α) (h : Chute) (a b : α) :
    (p.set h a).set h b = p.set h b := by
  match h with
  | 0 | 1 | 2 | 3 => rfl

@[simp] theorem PerChute.set_get {α : Type} (p : PerChute α) (h : Chute) : p.set h (p.get h) = p := by
  match h with
  | 0 | 1 | 2 | 3 => rfl

@[simp] theorem PerChute.get_map {α β : Type} (f : Chute → α → β) (p : PerChute α) (h : Chute) :
    (p.map f).get h = f h (p.get h) := by
  match h with
  | 0 | 1 | 2 | 3 => rfl

end Sys2Proof.Machine
end

