-- ==== Sys2Proof/Laws/State.lean ====
section
/-! SUPPORT. Small lemmas of the state's updates: what each named update leaves alone, block by block, and what reading a
queue, a nozzle record, an open count or a bus controller gives after one of them is written. -/

namespace Sys2Proof.Machine

variable (s : State)

/-! ### What each update leaves alone -/

@[simp] theorem setQueue_pending (g : Nat) (q : List Entry) : (s.setQueue g q).pending = s.pending := rfl
@[simp] theorem setQueue_clk (g : Nat) (q : List Entry) : (s.setQueue g q).clk = s.clk := rfl
@[simp] theorem setQueue_port (g : Nat) (q : List Entry) : (s.setQueue g q).port = s.port := rfl
@[simp] theorem setQueue_banks (g : Nat) (q : List Entry) : (s.setQueue g q).banks = s.banks := rfl
@[simp] theorem setQueue_planner (g : Nat) (q : List Entry) : (s.setQueue g q).planner = s.planner := rfl
@[simp] theorem setQueue_verdicts (g : Nat) (q : List Entry) : (s.setQueue g q).verdicts = s.verdicts := rfl
@[simp] theorem setQueue_bus (g : Nat) (q : List Entry) : (s.setQueue g q).bus = s.bus := rfl
@[simp] theorem setQueue_nozzles (g : Nat) (q : List Entry) : (s.setQueue g q).nozzles = s.nozzles := rfl
@[simp] theorem setQueue_ctl (g : Nat) (q : List Entry) : (s.setQueue g q).ctl = s.ctl := rfl
@[simp] theorem setQueue_link (g : Nat) (q : List Entry) : (s.setQueue g q).link = s.link := rfl
@[simp] theorem setQueue_settings (g : Nat) (q : List Entry) : (s.setQueue g q).settings = s.settings := rfl
@[simp] theorem setQueue_notices (g : Nat) (q : List Entry) : (s.setQueue g q).notices = s.notices := rfl
@[simp] theorem setQueue_tally (g : Nat) (q : List Entry) : (s.setQueue g q).tally = s.tally := rfl

@[simp] theorem setNozzle_pending (g : Nat) (r : NozzleRecord) : (s.setNozzle g r).pending = s.pending := rfl
@[simp] theorem setNozzle_clk (g : Nat) (r : NozzleRecord) : (s.setNozzle g r).clk = s.clk := rfl
@[simp] theorem setNozzle_port (g : Nat) (r : NozzleRecord) : (s.setNozzle g r).port = s.port := rfl
@[simp] theorem setNozzle_banks (g : Nat) (r : NozzleRecord) : (s.setNozzle g r).banks = s.banks := rfl
@[simp] theorem setNozzle_planner (g : Nat) (r : NozzleRecord) : (s.setNozzle g r).planner = s.planner := rfl
@[simp] theorem setNozzle_verdicts (g : Nat) (r : NozzleRecord) : (s.setNozzle g r).verdicts = s.verdicts := rfl
@[simp] theorem setNozzle_firing (g : Nat) (r : NozzleRecord) : (s.setNozzle g r).firing = s.firing := rfl
@[simp] theorem setNozzle_bus (g : Nat) (r : NozzleRecord) : (s.setNozzle g r).bus = s.bus := rfl
@[simp] theorem setNozzle_ctl (g : Nat) (r : NozzleRecord) : (s.setNozzle g r).ctl = s.ctl := rfl
@[simp] theorem setNozzle_link (g : Nat) (r : NozzleRecord) : (s.setNozzle g r).link = s.link := rfl
@[simp] theorem setNozzle_settings (g : Nat) (r : NozzleRecord) : (s.setNozzle g r).settings = s.settings := rfl
@[simp] theorem setNozzle_notices (g : Nat) (r : NozzleRecord) : (s.setNozzle g r).notices = s.notices := rfl
@[simp] theorem setNozzle_tally (g : Nat) (r : NozzleRecord) : (s.setNozzle g r).tally = s.tally := rfl

@[simp] theorem setOpenCount_pending (h : Chute) (n : Nat) : (s.setOpenCount h n).pending = s.pending := rfl
@[simp] theorem setOpenCount_clk (h : Chute) (n : Nat) : (s.setOpenCount h n).clk = s.clk := rfl
@[simp] theorem setOpenCount_port (h : Chute) (n : Nat) : (s.setOpenCount h n).port = s.port := rfl
@[simp] theorem setOpenCount_banks (h : Chute) (n : Nat) : (s.setOpenCount h n).banks = s.banks := rfl
@[simp] theorem setOpenCount_planner (h : Chute) (n : Nat) : (s.setOpenCount h n).planner = s.planner := rfl
@[simp] theorem setOpenCount_verdicts (h : Chute) (n : Nat) : (s.setOpenCount h n).verdicts = s.verdicts := rfl
@[simp] theorem setOpenCount_bus (h : Chute) (n : Nat) : (s.setOpenCount h n).bus = s.bus := rfl
@[simp] theorem setOpenCount_nozzles (h : Chute) (n : Nat) : (s.setOpenCount h n).nozzles = s.nozzles := rfl
@[simp] theorem setOpenCount_ctl (h : Chute) (n : Nat) : (s.setOpenCount h n).ctl = s.ctl := rfl
@[simp] theorem setOpenCount_link (h : Chute) (n : Nat) : (s.setOpenCount h n).link = s.link := rfl
@[simp] theorem setOpenCount_settings (h : Chute) (n : Nat) : (s.setOpenCount h n).settings = s.settings := rfl
@[simp] theorem setOpenCount_notices (h : Chute) (n : Nat) : (s.setOpenCount h n).notices = s.notices := rfl
@[simp] theorem setOpenCount_tally (h : Chute) (n : Nat) : (s.setOpenCount h n).tally = s.tally := rfl

@[simp] theorem setBus_pending (h : Chute) (b : BusController) : (s.setBus h b).pending = s.pending := rfl
@[simp] theorem setBus_clk (h : Chute) (b : BusController) : (s.setBus h b).clk = s.clk := rfl
@[simp] theorem setBus_port (h : Chute) (b : BusController) : (s.setBus h b).port = s.port := rfl
@[simp] theorem setBus_banks (h : Chute) (b : BusController) : (s.setBus h b).banks = s.banks := rfl
@[simp] theorem setBus_planner (h : Chute) (b : BusController) : (s.setBus h b).planner = s.planner := rfl
@[simp] theorem setBus_verdicts (h : Chute) (b : BusController) : (s.setBus h b).verdicts = s.verdicts := rfl
@[simp] theorem setBus_firing (h : Chute) (b : BusController) : (s.setBus h b).firing = s.firing := rfl
@[simp] theorem setBus_nozzles (h : Chute) (b : BusController) : (s.setBus h b).nozzles = s.nozzles := rfl
@[simp] theorem setBus_ctl (h : Chute) (b : BusController) : (s.setBus h b).ctl = s.ctl := rfl
@[simp] theorem setBus_link (h : Chute) (b : BusController) : (s.setBus h b).link = s.link := rfl
@[simp] theorem setBus_settings (h : Chute) (b : BusController) : (s.setBus h b).settings = s.settings := rfl
@[simp] theorem setBus_notices (h : Chute) (b : BusController) : (s.setBus h b).notices = s.notices := rfl
@[simp] theorem setBus_tally (h : Chute) (b : BusController) : (s.setBus h b).tally = s.tally := rfl

@[simp] theorem closeWindow_pending : (closeWindow s).pending = s.pending := rfl
@[simp] theorem closeWindow_clk : (closeWindow s).clk = s.clk := rfl
@[simp] theorem closeWindow_port : (closeWindow s).port = s.port := rfl
@[simp] theorem closeWindow_banks : (closeWindow s).banks = s.banks := rfl
@[simp] theorem closeWindow_planner : (closeWindow s).planner = s.planner := rfl
@[simp] theorem closeWindow_verdicts : (closeWindow s).verdicts = s.verdicts := rfl
@[simp] theorem closeWindow_firing : (closeWindow s).firing = s.firing := rfl
@[simp] theorem closeWindow_bus : (closeWindow s).bus = s.bus := rfl
@[simp] theorem closeWindow_nozzles : (closeWindow s).nozzles = s.nozzles := rfl
@[simp] theorem closeWindow_ctl : (closeWindow s).ctl = s.ctl := rfl
@[simp] theorem closeWindow_settings : (closeWindow s).settings = s.settings := rfl
@[simp] theorem closeWindow_notices : (closeWindow s).notices = s.notices := rfl
@[simp] theorem closeWindow_tally : (closeWindow s).tally = s.tally := rfl

@[simp] theorem countSighting_pending (h : Chute) (k : Nat) (c : SightingCounter) : (countSighting h k c s).pending = s.pending := rfl
@[simp] theorem countSighting_clk (h : Chute) (k : Nat) (c : SightingCounter) : (countSighting h k c s).clk = s.clk := rfl
@[simp] theorem countSighting_port (h : Chute) (k : Nat) (c : SightingCounter) : (countSighting h k c s).port = s.port := rfl
@[simp] theorem countSighting_banks (h : Chute) (k : Nat) (c : SightingCounter) : (countSighting h k c s).banks = s.banks := rfl
@[simp] theorem countSighting_planner (h : Chute) (k : Nat) (c : SightingCounter) : (countSighting h k c s).planner = s.planner := rfl
@[simp] theorem countSighting_verdicts (h : Chute) (k : Nat) (c : SightingCounter) : (countSighting h k c s).verdicts = s.verdicts := rfl
@[simp] theorem countSighting_firing (h : Chute) (k : Nat) (c : SightingCounter) : (countSighting h k c s).firing = s.firing := rfl
@[simp] theorem countSighting_bus (h : Chute) (k : Nat) (c : SightingCounter) : (countSighting h k c s).bus = s.bus := rfl
@[simp] theorem countSighting_nozzles (h : Chute) (k : Nat) (c : SightingCounter) : (countSighting h k c s).nozzles = s.nozzles := rfl
@[simp] theorem countSighting_ctl (h : Chute) (k : Nat) (c : SightingCounter) : (countSighting h k c s).ctl = s.ctl := rfl
@[simp] theorem countSighting_link (h : Chute) (k : Nat) (c : SightingCounter) : (countSighting h k c s).link = s.link := rfl
@[simp] theorem countSighting_settings (h : Chute) (k : Nat) (c : SightingCounter) : (countSighting h k c s).settings = s.settings := rfl
@[simp] theorem countSighting_notices (h : Chute) (k : Nat) (c : SightingCounter) : (countSighting h k c s).notices = s.notices := rfl

@[simp] theorem countChute_pending (h : Chute) (c : ChuteCounter) : (countChute h c s).pending = s.pending := rfl
@[simp] theorem countChute_clk (h : Chute) (c : ChuteCounter) : (countChute h c s).clk = s.clk := rfl
@[simp] theorem countChute_port (h : Chute) (c : ChuteCounter) : (countChute h c s).port = s.port := rfl
@[simp] theorem countChute_banks (h : Chute) (c : ChuteCounter) : (countChute h c s).banks = s.banks := rfl
@[simp] theorem countChute_planner (h : Chute) (c : ChuteCounter) : (countChute h c s).planner = s.planner := rfl
@[simp] theorem countChute_verdicts (h : Chute) (c : ChuteCounter) : (countChute h c s).verdicts = s.verdicts := rfl
@[simp] theorem countChute_firing (h : Chute) (c : ChuteCounter) : (countChute h c s).firing = s.firing := rfl
@[simp] theorem countChute_bus (h : Chute) (c : ChuteCounter) : (countChute h c s).bus = s.bus := rfl
@[simp] theorem countChute_nozzles (h : Chute) (c : ChuteCounter) : (countChute h c s).nozzles = s.nozzles := rfl
@[simp] theorem countChute_ctl (h : Chute) (c : ChuteCounter) : (countChute h c s).ctl = s.ctl := rfl
@[simp] theorem countChute_link (h : Chute) (c : ChuteCounter) : (countChute h c s).link = s.link := rfl
@[simp] theorem countChute_settings (h : Chute) (c : ChuteCounter) : (countChute h c s).settings = s.settings := rfl
@[simp] theorem countChute_notices (h : Chute) (c : ChuteCounter) : (countChute h c s).notices = s.notices := rfl

@[simp] theorem countAbandonedFirings_pending (h : Chute) (n : Nat) : (countAbandonedFirings h n s).pending = s.pending := rfl
@[simp] theorem countAbandonedFirings_clk (h : Chute) (n : Nat) : (countAbandonedFirings h n s).clk = s.clk := rfl
@[simp] theorem countAbandonedFirings_port (h : Chute) (n : Nat) : (countAbandonedFirings h n s).port = s.port := rfl
@[simp] theorem countAbandonedFirings_banks (h : Chute) (n : Nat) : (countAbandonedFirings h n s).banks = s.banks := rfl
@[simp] theorem countAbandonedFirings_planner (h : Chute) (n : Nat) : (countAbandonedFirings h n s).planner = s.planner := rfl
@[simp] theorem countAbandonedFirings_verdicts (h : Chute) (n : Nat) : (countAbandonedFirings h n s).verdicts = s.verdicts := rfl
@[simp] theorem countAbandonedFirings_firing (h : Chute) (n : Nat) : (countAbandonedFirings h n s).firing = s.firing := rfl
@[simp] theorem countAbandonedFirings_bus (h : Chute) (n : Nat) : (countAbandonedFirings h n s).bus = s.bus := rfl
@[simp] theorem countAbandonedFirings_nozzles (h : Chute) (n : Nat) : (countAbandonedFirings h n s).nozzles = s.nozzles := rfl
@[simp] theorem countAbandonedFirings_ctl (h : Chute) (n : Nat) : (countAbandonedFirings h n s).ctl = s.ctl := rfl
@[simp] theorem countAbandonedFirings_link (h : Chute) (n : Nat) : (countAbandonedFirings h n s).link = s.link := rfl
@[simp] theorem countAbandonedFirings_settings (h : Chute) (n : Nat) : (countAbandonedFirings h n s).settings = s.settings := rfl
@[simp] theorem countAbandonedFirings_notices (h : Chute) (n : Nat) : (countAbandonedFirings h n s).notices = s.notices := rfl

@[simp] theorem countLinkError_pending : (countLinkError s).pending = s.pending := rfl
@[simp] theorem countLinkError_clk : (countLinkError s).clk = s.clk := rfl
@[simp] theorem countLinkError_port : (countLinkError s).port = s.port := rfl
@[simp] theorem countLinkError_banks : (countLinkError s).banks = s.banks := rfl
@[simp] theorem countLinkError_planner : (countLinkError s).planner = s.planner := rfl
@[simp] theorem countLinkError_verdicts : (countLinkError s).verdicts = s.verdicts := rfl
@[simp] theorem countLinkError_firing : (countLinkError s).firing = s.firing := rfl
@[simp] theorem countLinkError_bus : (countLinkError s).bus = s.bus := rfl
@[simp] theorem countLinkError_nozzles : (countLinkError s).nozzles = s.nozzles := rfl
@[simp] theorem countLinkError_ctl : (countLinkError s).ctl = s.ctl := rfl
@[simp] theorem countLinkError_link : (countLinkError s).link = s.link := rfl
@[simp] theorem countLinkError_settings : (countLinkError s).settings = s.settings := rfl
@[simp] theorem countLinkError_notices : (countLinkError s).notices = s.notices := rfl

@[simp] theorem countControlError_pending : (countControlError s).pending = s.pending := rfl
@[simp] theorem countControlError_clk : (countControlError s).clk = s.clk := rfl
@[simp] theorem countControlError_port : (countControlError s).port = s.port := rfl
@[simp] theorem countControlError_banks : (countControlError s).banks = s.banks := rfl
@[simp] theorem countControlError_planner : (countControlError s).planner = s.planner := rfl
@[simp] theorem countControlError_verdicts : (countControlError s).verdicts = s.verdicts := rfl
@[simp] theorem countControlError_firing : (countControlError s).firing = s.firing := rfl
@[simp] theorem countControlError_bus : (countControlError s).bus = s.bus := rfl
@[simp] theorem countControlError_nozzles : (countControlError s).nozzles = s.nozzles := rfl
@[simp] theorem countControlError_ctl : (countControlError s).ctl = s.ctl := rfl
@[simp] theorem countControlError_link : (countControlError s).link = s.link := rfl
@[simp] theorem countControlError_settings : (countControlError s).settings = s.settings := rfl
@[simp] theorem countControlError_notices : (countControlError s).notices = s.notices := rfl

@[simp] theorem setNotice_pending (k : NoticeKind) (h : Option Chute) : (setNotice k h s).pending = s.pending := rfl
@[simp] theorem setNotice_clk (k : NoticeKind) (h : Option Chute) : (setNotice k h s).clk = s.clk := rfl
@[simp] theorem setNotice_port (k : NoticeKind) (h : Option Chute) : (setNotice k h s).port = s.port := rfl
@[simp] theorem setNotice_banks (k : NoticeKind) (h : Option Chute) : (setNotice k h s).banks = s.banks := rfl
@[simp] theorem setNotice_planner (k : NoticeKind) (h : Option Chute) : (setNotice k h s).planner = s.planner := rfl
@[simp] theorem setNotice_verdicts (k : NoticeKind) (h : Option Chute) : (setNotice k h s).verdicts = s.verdicts := rfl
@[simp] theorem setNotice_firing (k : NoticeKind) (h : Option Chute) : (setNotice k h s).firing = s.firing := rfl
@[simp] theorem setNotice_bus (k : NoticeKind) (h : Option Chute) : (setNotice k h s).bus = s.bus := rfl
@[simp] theorem setNotice_nozzles (k : NoticeKind) (h : Option Chute) : (setNotice k h s).nozzles = s.nozzles := rfl
@[simp] theorem setNotice_ctl (k : NoticeKind) (h : Option Chute) : (setNotice k h s).ctl = s.ctl := rfl
@[simp] theorem setNotice_link (k : NoticeKind) (h : Option Chute) : (setNotice k h s).link = s.link := rfl
@[simp] theorem setNotice_settings (k : NoticeKind) (h : Option Chute) : (setNotice k h s).settings = s.settings := rfl
@[simp] theorem setNotice_tally (k : NoticeKind) (h : Option Chute) : (setNotice k h s).tally = s.tally := rfl

@[simp] theorem handRequest_pending (r : Request) : (handRequest r s).pending = s.pending := rfl
@[simp] theorem handRequest_clk (r : Request) : (handRequest r s).clk = s.clk := rfl
@[simp] theorem handRequest_port (r : Request) : (handRequest r s).port = s.port := rfl
@[simp] theorem handRequest_banks (r : Request) : (handRequest r s).banks = s.banks := rfl
@[simp] theorem handRequest_planner (r : Request) : (handRequest r s).planner = s.planner := rfl
@[simp] theorem handRequest_verdicts (r : Request) : (handRequest r s).verdicts = s.verdicts := rfl
@[simp] theorem handRequest_firing (r : Request) : (handRequest r s).firing = s.firing := rfl
@[simp] theorem handRequest_nozzles (r : Request) : (handRequest r s).nozzles = s.nozzles := rfl
@[simp] theorem handRequest_ctl (r : Request) : (handRequest r s).ctl = s.ctl := rfl
@[simp] theorem handRequest_link (r : Request) : (handRequest r s).link = s.link := rfl
@[simp] theorem handRequest_settings (r : Request) : (handRequest r s).settings = s.settings := rfl
@[simp] theorem handRequest_notices (r : Request) : (handRequest r s).notices = s.notices := rfl
@[simp] theorem handRequest_tally (r : Request) : (handRequest r s).tally = s.tally := rfl

@[simp] theorem withdrawOpen_pending (g ident : Nat) : (withdrawOpen g ident s).pending = s.pending := rfl
@[simp] theorem withdrawOpen_clk (g ident : Nat) : (withdrawOpen g ident s).clk = s.clk := rfl
@[simp] theorem withdrawOpen_port (g ident : Nat) : (withdrawOpen g ident s).port = s.port := rfl
@[simp] theorem withdrawOpen_banks (g ident : Nat) : (withdrawOpen g ident s).banks = s.banks := rfl
@[simp] theorem withdrawOpen_planner (g ident : Nat) : (withdrawOpen g ident s).planner = s.planner := rfl
@[simp] theorem withdrawOpen_verdicts (g ident : Nat) : (withdrawOpen g ident s).verdicts = s.verdicts := rfl
@[simp] theorem withdrawOpen_firing (g ident : Nat) : (withdrawOpen g ident s).firing = s.firing := rfl
@[simp] theorem withdrawOpen_nozzles (g ident : Nat) : (withdrawOpen g ident s).nozzles = s.nozzles := rfl
@[simp] theorem withdrawOpen_ctl (g ident : Nat) : (withdrawOpen g ident s).ctl = s.ctl := rfl
@[simp] theorem withdrawOpen_link (g ident : Nat) : (withdrawOpen g ident s).link = s.link := rfl
@[simp] theorem withdrawOpen_settings (g ident : Nat) : (withdrawOpen g ident s).settings = s.settings := rfl
@[simp] theorem withdrawOpen_notices (g ident : Nat) : (withdrawOpen g ident s).notices = s.notices := rfl
@[simp] theorem withdrawOpen_tally (g ident : Nat) : (withdrawOpen g ident s).tally = s.tally := rfl

@[simp] theorem requestCloseAll_pending : (requestCloseAll s).pending = s.pending := rfl
@[simp] theorem requestCloseAll_clk : (requestCloseAll s).clk = s.clk := rfl
@[simp] theorem requestCloseAll_port : (requestCloseAll s).port = s.port := rfl
@[simp] theorem requestCloseAll_banks : (requestCloseAll s).banks = s.banks := rfl
@[simp] theorem requestCloseAll_planner : (requestCloseAll s).planner = s.planner := rfl
@[simp] theorem requestCloseAll_verdicts : (requestCloseAll s).verdicts = s.verdicts := rfl
@[simp] theorem requestCloseAll_firing : (requestCloseAll s).firing = s.firing := rfl
@[simp] theorem requestCloseAll_nozzles : (requestCloseAll s).nozzles = s.nozzles := rfl
@[simp] theorem requestCloseAll_ctl : (requestCloseAll s).ctl = s.ctl := rfl
@[simp] theorem requestCloseAll_link : (requestCloseAll s).link = s.link := rfl
@[simp] theorem requestCloseAll_settings : (requestCloseAll s).settings = s.settings := rfl
@[simp] theorem requestCloseAll_notices : (requestCloseAll s).notices = s.notices := rfl
@[simp] theorem requestCloseAll_tally : (requestCloseAll s).tally = s.tally := rfl

@[simp] theorem removeEntry_pending (g ident : Nat) : (removeEntry g ident s).pending = s.pending := rfl
@[simp] theorem removeEntry_clk (g ident : Nat) : (removeEntry g ident s).clk = s.clk := rfl
@[simp] theorem removeEntry_port (g ident : Nat) : (removeEntry g ident s).port = s.port := rfl
@[simp] theorem removeEntry_banks (g ident : Nat) : (removeEntry g ident s).banks = s.banks := rfl
@[simp] theorem removeEntry_planner (g ident : Nat) : (removeEntry g ident s).planner = s.planner := rfl
@[simp] theorem removeEntry_verdicts (g ident : Nat) : (removeEntry g ident s).verdicts = s.verdicts := rfl
@[simp] theorem removeEntry_bus (g ident : Nat) : (removeEntry g ident s).bus = s.bus := rfl
@[simp] theorem removeEntry_nozzles (g ident : Nat) : (removeEntry g ident s).nozzles = s.nozzles := rfl
@[simp] theorem removeEntry_ctl (g ident : Nat) : (removeEntry g ident s).ctl = s.ctl := rfl
@[simp] theorem removeEntry_link (g ident : Nat) : (removeEntry g ident s).link = s.link := rfl
@[simp] theorem removeEntry_settings (g ident : Nat) : (removeEntry g ident s).settings = s.settings := rfl
@[simp] theorem removeEntry_notices (g ident : Nat) : (removeEntry g ident s).notices = s.notices := rfl
@[simp] theorem removeEntry_tally (g ident : Nat) : (removeEntry g ident s).tally = s.tally := rfl

@[simp] theorem updateEntry_pending (g ident : Nat) (f : Entry → Entry) : (updateEntry g ident f s).pending = s.pending := rfl
@[simp] theorem updateEntry_clk (g ident : Nat) (f : Entry → Entry) : (updateEntry g ident f s).clk = s.clk := rfl
@[simp] theorem updateEntry_port (g ident : Nat) (f : Entry → Entry) : (updateEntry g ident f s).port = s.port := rfl
@[simp] theorem updateEntry_banks (g ident : Nat) (f : Entry → Entry) : (updateEntry g ident f s).banks = s.banks := rfl
@[simp] theorem updateEntry_planner (g ident : Nat) (f : Entry → Entry) : (updateEntry g ident f s).planner = s.planner := rfl
@[simp] theorem updateEntry_verdicts (g ident : Nat) (f : Entry → Entry) : (updateEntry g ident f s).verdicts = s.verdicts := rfl
@[simp] theorem updateEntry_bus (g ident : Nat) (f : Entry → Entry) : (updateEntry g ident f s).bus = s.bus := rfl
@[simp] theorem updateEntry_nozzles (g ident : Nat) (f : Entry → Entry) : (updateEntry g ident f s).nozzles = s.nozzles := rfl
@[simp] theorem updateEntry_ctl (g ident : Nat) (f : Entry → Entry) : (updateEntry g ident f s).ctl = s.ctl := rfl
@[simp] theorem updateEntry_link (g ident : Nat) (f : Entry → Entry) : (updateEntry g ident f s).link = s.link := rfl
@[simp] theorem updateEntry_settings (g ident : Nat) (f : Entry → Entry) : (updateEntry g ident f s).settings = s.settings := rfl
@[simp] theorem updateEntry_notices (g ident : Nat) (f : Entry → Entry) : (updateEntry g ident f s).notices = s.notices := rfl
@[simp] theorem updateEntry_tally (g ident : Nat) (f : Entry → Entry) : (updateEntry g ident f s).tally = s.tally := rfl

@[simp] theorem endPlanning_pending : (endPlanning s).pending = s.pending := rfl
@[simp] theorem endPlanning_clk : (endPlanning s).clk = s.clk := rfl
@[simp] theorem endPlanning_port : (endPlanning s).port = s.port := rfl
@[simp] theorem endPlanning_verdicts : (endPlanning s).verdicts = s.verdicts := rfl
@[simp] theorem endPlanning_firing : (endPlanning s).firing = s.firing := rfl
@[simp] theorem endPlanning_bus : (endPlanning s).bus = s.bus := rfl
@[simp] theorem endPlanning_nozzles : (endPlanning s).nozzles = s.nozzles := rfl
@[simp] theorem endPlanning_ctl : (endPlanning s).ctl = s.ctl := rfl
@[simp] theorem endPlanning_link : (endPlanning s).link = s.link := rfl
@[simp] theorem endPlanning_settings : (endPlanning s).settings = s.settings := rfl
@[simp] theorem endPlanning_notices : (endPlanning s).notices = s.notices := rfl
@[simp] theorem endPlanning_tally : (endPlanning s).tally = s.tally := rfl

@[simp] theorem emptyRings_pending : (emptyRings s).pending = s.pending := rfl
@[simp] theorem emptyRings_clk : (emptyRings s).clk = s.clk := rfl
@[simp] theorem emptyRings_port : (emptyRings s).port = s.port := rfl
@[simp] theorem emptyRings_banks : (emptyRings s).banks = s.banks := rfl
@[simp] theorem emptyRings_planner : (emptyRings s).planner = s.planner := rfl
@[simp] theorem emptyRings_firing : (emptyRings s).firing = s.firing := rfl
@[simp] theorem emptyRings_bus : (emptyRings s).bus = s.bus := rfl
@[simp] theorem emptyRings_nozzles : (emptyRings s).nozzles = s.nozzles := rfl
@[simp] theorem emptyRings_ctl : (emptyRings s).ctl = s.ctl := rfl
@[simp] theorem emptyRings_link : (emptyRings s).link = s.link := rfl
@[simp] theorem emptyRings_settings : (emptyRings s).settings = s.settings := rfl
@[simp] theorem emptyRings_notices : (emptyRings s).notices = s.notices := rfl
@[simp] theorem emptyRings_tally : (emptyRings s).tally = s.tally := rfl

@[simp] theorem emptyIntake_pending : (emptyIntake s).pending = s.pending := rfl
@[simp] theorem emptyIntake_clk : (emptyIntake s).clk = s.clk := rfl
@[simp] theorem emptyIntake_banks : (emptyIntake s).banks = s.banks := rfl
@[simp] theorem emptyIntake_planner : (emptyIntake s).planner = s.planner := rfl
@[simp] theorem emptyIntake_verdicts : (emptyIntake s).verdicts = s.verdicts := rfl
@[simp] theorem emptyIntake_firing : (emptyIntake s).firing = s.firing := rfl
@[simp] theorem emptyIntake_bus : (emptyIntake s).bus = s.bus := rfl
@[simp] theorem emptyIntake_nozzles : (emptyIntake s).nozzles = s.nozzles := rfl
@[simp] theorem emptyIntake_ctl : (emptyIntake s).ctl = s.ctl := rfl
@[simp] theorem emptyIntake_link : (emptyIntake s).link = s.link := rfl
@[simp] theorem emptyIntake_settings : (emptyIntake s).settings = s.settings := rfl
@[simp] theorem emptyIntake_notices : (emptyIntake s).notices = s.notices := rfl

@[simp] theorem emptyHeld_pending : (emptyHeld s).pending = s.pending := rfl
@[simp] theorem emptyHeld_clk : (emptyHeld s).clk = s.clk := rfl
@[simp] theorem emptyHeld_port : (emptyHeld s).port = s.port := rfl
@[simp] theorem emptyHeld_banks : (emptyHeld s).banks = s.banks := rfl
@[simp] theorem emptyHeld_planner : (emptyHeld s).planner = s.planner := rfl
@[simp] theorem emptyHeld_firing : (emptyHeld s).firing = s.firing := rfl
@[simp] theorem emptyHeld_bus : (emptyHeld s).bus = s.bus := rfl
@[simp] theorem emptyHeld_nozzles : (emptyHeld s).nozzles = s.nozzles := rfl
@[simp] theorem emptyHeld_ctl : (emptyHeld s).ctl = s.ctl := rfl
@[simp] theorem emptyHeld_link : (emptyHeld s).link = s.link := rfl
@[simp] theorem emptyHeld_settings : (emptyHeld s).settings = s.settings := rfl
@[simp] theorem emptyHeld_notices : (emptyHeld s).notices = s.notices := rfl

@[simp] theorem emptyQueues_pending : (emptyQueues s).pending = s.pending := rfl
@[simp] theorem emptyQueues_clk : (emptyQueues s).clk = s.clk := rfl
@[simp] theorem emptyQueues_port : (emptyQueues s).port = s.port := rfl
@[simp] theorem emptyQueues_banks : (emptyQueues s).banks = s.banks := rfl
@[simp] theorem emptyQueues_planner : (emptyQueues s).planner = s.planner := rfl
@[simp] theorem emptyQueues_verdicts : (emptyQueues s).verdicts = s.verdicts := rfl
@[simp] theorem emptyQueues_nozzles : (emptyQueues s).nozzles = s.nozzles := rfl
@[simp] theorem emptyQueues_ctl : (emptyQueues s).ctl = s.ctl := rfl
@[simp] theorem emptyQueues_link : (emptyQueues s).link = s.link := rfl
@[simp] theorem emptyQueues_settings : (emptyQueues s).settings = s.settings := rfl
@[simp] theorem emptyQueues_notices : (emptyQueues s).notices = s.notices := rfl

@[simp] theorem reduceQueues_pending : (reduceQueues s).pending = s.pending := rfl
@[simp] theorem reduceQueues_clk : (reduceQueues s).clk = s.clk := rfl
@[simp] theorem reduceQueues_port : (reduceQueues s).port = s.port := rfl
@[simp] theorem reduceQueues_banks : (reduceQueues s).banks = s.banks := rfl
@[simp] theorem reduceQueues_planner : (reduceQueues s).planner = s.planner := rfl
@[simp] theorem reduceQueues_verdicts : (reduceQueues s).verdicts = s.verdicts := rfl
@[simp] theorem reduceQueues_nozzles : (reduceQueues s).nozzles = s.nozzles := rfl
@[simp] theorem reduceQueues_ctl : (reduceQueues s).ctl = s.ctl := rfl
@[simp] theorem reduceQueues_link : (reduceQueues s).link = s.link := rfl
@[simp] theorem reduceQueues_settings : (reduceQueues s).settings = s.settings := rfl
@[simp] theorem reduceQueues_notices : (reduceQueues s).notices = s.notices := rfl

@[simp] theorem abandonWaiting_pending (g : Nat) : (abandonWaiting g s).pending = s.pending := rfl
@[simp] theorem abandonWaiting_clk (g : Nat) : (abandonWaiting g s).clk = s.clk := rfl
@[simp] theorem abandonWaiting_port (g : Nat) : (abandonWaiting g s).port = s.port := rfl
@[simp] theorem abandonWaiting_banks (g : Nat) : (abandonWaiting g s).banks = s.banks := rfl
@[simp] theorem abandonWaiting_planner (g : Nat) : (abandonWaiting g s).planner = s.planner := rfl
@[simp] theorem abandonWaiting_verdicts (g : Nat) : (abandonWaiting g s).verdicts = s.verdicts := rfl
@[simp] theorem abandonWaiting_bus (g : Nat) : (abandonWaiting g s).bus = s.bus := rfl
@[simp] theorem abandonWaiting_nozzles (g : Nat) : (abandonWaiting g s).nozzles = s.nozzles := rfl
@[simp] theorem abandonWaiting_ctl (g : Nat) : (abandonWaiting g s).ctl = s.ctl := rfl
@[simp] theorem abandonWaiting_link (g : Nat) : (abandonWaiting g s).link = s.link := rfl
@[simp] theorem abandonWaiting_settings (g : Nat) : (abandonWaiting g s).settings = s.settings := rfl
@[simp] theorem abandonWaiting_notices (g : Nat) : (abandonWaiting g s).notices = s.notices := rfl

@[simp] theorem abandonOrigin_pending (o : Origin) : (abandonOrigin o s).pending = s.pending := rfl
@[simp] theorem abandonOrigin_clk (o : Origin) : (abandonOrigin o s).clk = s.clk := rfl
@[simp] theorem abandonOrigin_port (o : Origin) : (abandonOrigin o s).port = s.port := rfl
@[simp] theorem abandonOrigin_banks (o : Origin) : (abandonOrigin o s).banks = s.banks := rfl
@[simp] theorem abandonOrigin_planner (o : Origin) : (abandonOrigin o s).planner = s.planner := rfl
@[simp] theorem abandonOrigin_verdicts (o : Origin) : (abandonOrigin o s).verdicts = s.verdicts := rfl
@[simp] theorem abandonOrigin_bus (o : Origin) : (abandonOrigin o s).bus = s.bus := rfl
@[simp] theorem abandonOrigin_nozzles (o : Origin) : (abandonOrigin o s).nozzles = s.nozzles := rfl
@[simp] theorem abandonOrigin_ctl (o : Origin) : (abandonOrigin o s).ctl = s.ctl := rfl
@[simp] theorem abandonOrigin_link (o : Origin) : (abandonOrigin o s).link = s.link := rfl
@[simp] theorem abandonOrigin_settings (o : Origin) : (abandonOrigin o s).settings = s.settings := rfl
@[simp] theorem abandonOrigin_notices (o : Origin) : (abandonOrigin o s).notices = s.notices := rfl

@[simp] theorem setPlan_pending (r : PlanRecord) : (setPlan r s).pending = s.pending := rfl
@[simp] theorem setPlan_clk (r : PlanRecord) : (setPlan r s).clk = s.clk := rfl
@[simp] theorem setPlan_port (r : PlanRecord) : (setPlan r s).port = s.port := rfl
@[simp] theorem setPlan_banks (r : PlanRecord) : (setPlan r s).banks = s.banks := rfl
@[simp] theorem setPlan_verdicts (r : PlanRecord) : (setPlan r s).verdicts = s.verdicts := rfl
@[simp] theorem setPlan_firing (r : PlanRecord) : (setPlan r s).firing = s.firing := rfl
@[simp] theorem setPlan_bus (r : PlanRecord) : (setPlan r s).bus = s.bus := rfl
@[simp] theorem setPlan_nozzles (r : PlanRecord) : (setPlan r s).nozzles = s.nozzles := rfl
@[simp] theorem setPlan_ctl (r : PlanRecord) : (setPlan r s).ctl = s.ctl := rfl
@[simp] theorem setPlan_link (r : PlanRecord) : (setPlan r s).link = s.link := rfl
@[simp] theorem setPlan_settings (r : PlanRecord) : (setPlan r s).settings = s.settings := rfl
@[simp] theorem setPlan_notices (r : PlanRecord) : (setPlan r s).notices = s.notices := rfl
@[simp] theorem setPlan_tally (r : PlanRecord) : (setPlan r s).tally = s.tally := rfl

@[simp] theorem endWith_pending (g : Sighting) (c : SightingCounter) : (endWith g c s).pending = s.pending := rfl
@[simp] theorem endWith_clk (g : Sighting) (c : SightingCounter) : (endWith g c s).clk = s.clk := rfl
@[simp] theorem endWith_port (g : Sighting) (c : SightingCounter) : (endWith g c s).port = s.port := rfl
@[simp] theorem endWith_verdicts (g : Sighting) (c : SightingCounter) : (endWith g c s).verdicts = s.verdicts := rfl
@[simp] theorem endWith_firing (g : Sighting) (c : SightingCounter) : (endWith g c s).firing = s.firing := rfl
@[simp] theorem endWith_bus (g : Sighting) (c : SightingCounter) : (endWith g c s).bus = s.bus := rfl
@[simp] theorem endWith_nozzles (g : Sighting) (c : SightingCounter) : (endWith g c s).nozzles = s.nozzles := rfl
@[simp] theorem endWith_ctl (g : Sighting) (c : SightingCounter) : (endWith g c s).ctl = s.ctl := rfl
@[simp] theorem endWith_link (g : Sighting) (c : SightingCounter) : (endWith g c s).link = s.link := rfl
@[simp] theorem endWith_settings (g : Sighting) (c : SightingCounter) : (endWith g c s).settings = s.settings := rfl
@[simp] theorem endWith_notices (g : Sighting) (c : SightingCounter) : (endWith g c s).notices = s.notices := rfl

@[simp] theorem removeHeld_pending (h : Chute) (tag : Byte) : (removeHeld h tag s).pending = s.pending := rfl
@[simp] theorem removeHeld_clk (h : Chute) (tag : Byte) : (removeHeld h tag s).clk = s.clk := rfl
@[simp] theorem removeHeld_port (h : Chute) (tag : Byte) : (removeHeld h tag s).port = s.port := rfl
@[simp] theorem removeHeld_banks (h : Chute) (tag : Byte) : (removeHeld h tag s).banks = s.banks := rfl
@[simp] theorem removeHeld_planner (h : Chute) (tag : Byte) : (removeHeld h tag s).planner = s.planner := rfl
@[simp] theorem removeHeld_firing (h : Chute) (tag : Byte) : (removeHeld h tag s).firing = s.firing := rfl
@[simp] theorem removeHeld_bus (h : Chute) (tag : Byte) : (removeHeld h tag s).bus = s.bus := rfl
@[simp] theorem removeHeld_nozzles (h : Chute) (tag : Byte) : (removeHeld h tag s).nozzles = s.nozzles := rfl
@[simp] theorem removeHeld_ctl (h : Chute) (tag : Byte) : (removeHeld h tag s).ctl = s.ctl := rfl
@[simp] theorem removeHeld_link (h : Chute) (tag : Byte) : (removeHeld h tag s).link = s.link := rfl
@[simp] theorem removeHeld_settings (h : Chute) (tag : Byte) : (removeHeld h tag s).settings = s.settings := rfl
@[simp] theorem removeHeld_notices (h : Chute) (tag : Byte) : (removeHeld h tag s).notices = s.notices := rfl
@[simp] theorem removeHeld_tally (h : Chute) (tag : Byte) : (removeHeld h tag s).tally = s.tally := rfl

@[simp] theorem pushTag_pending (h : Chute) (tag : Byte) : (pushTag h tag s).pending = s.pending := rfl
@[simp] theorem pushTag_clk (h : Chute) (tag : Byte) : (pushTag h tag s).clk = s.clk := rfl
@[simp] theorem pushTag_port (h : Chute) (tag : Byte) : (pushTag h tag s).port = s.port := rfl
@[simp] theorem pushTag_banks (h : Chute) (tag : Byte) : (pushTag h tag s).banks = s.banks := rfl
@[simp] theorem pushTag_planner (h : Chute) (tag : Byte) : (pushTag h tag s).planner = s.planner := rfl
@[simp] theorem pushTag_firing (h : Chute) (tag : Byte) : (pushTag h tag s).firing = s.firing := rfl
@[simp] theorem pushTag_bus (h : Chute) (tag : Byte) : (pushTag h tag s).bus = s.bus := rfl
@[simp] theorem pushTag_nozzles (h : Chute) (tag : Byte) : (pushTag h tag s).nozzles = s.nozzles := rfl
@[simp] theorem pushTag_ctl (h : Chute) (tag : Byte) : (pushTag h tag s).ctl = s.ctl := rfl
@[simp] theorem pushTag_link (h : Chute) (tag : Byte) : (pushTag h tag s).link = s.link := rfl
@[simp] theorem pushTag_settings (h : Chute) (tag : Byte) : (pushTag h tag s).settings = s.settings := rfl
@[simp] theorem pushTag_notices (h : Chute) (tag : Byte) : (pushTag h tag s).notices = s.notices := rfl
@[simp] theorem pushTag_tally (h : Chute) (tag : Byte) : (pushTag h tag s).tally = s.tally := rfl

@[simp] theorem setRecordRx_pending (r : RecordRx) : (setRecordRx r s).pending = s.pending := rfl
@[simp] theorem setRecordRx_clk (r : RecordRx) : (setRecordRx r s).clk = s.clk := rfl
@[simp] theorem setRecordRx_banks (r : RecordRx) : (setRecordRx r s).banks = s.banks := rfl
@[simp] theorem setRecordRx_planner (r : RecordRx) : (setRecordRx r s).planner = s.planner := rfl
@[simp] theorem setRecordRx_verdicts (r : RecordRx) : (setRecordRx r s).verdicts = s.verdicts := rfl
@[simp] theorem setRecordRx_firing (r : RecordRx) : (setRecordRx r s).firing = s.firing := rfl
@[simp] theorem setRecordRx_bus (r : RecordRx) : (setRecordRx r s).bus = s.bus := rfl
@[simp] theorem setRecordRx_nozzles (r : RecordRx) : (setRecordRx r s).nozzles = s.nozzles := rfl
@[simp] theorem setRecordRx_ctl (r : RecordRx) : (setRecordRx r s).ctl = s.ctl := rfl
@[simp] theorem setRecordRx_link (r : RecordRx) : (setRecordRx r s).link = s.link := rfl
@[simp] theorem setRecordRx_settings (r : RecordRx) : (setRecordRx r s).settings = s.settings := rfl
@[simp] theorem setRecordRx_notices (r : RecordRx) : (setRecordRx r s).notices = s.notices := rfl
@[simp] theorem setRecordRx_tally (r : RecordRx) : (setRecordRx r s).tally = s.tally := rfl

@[simp] theorem linkError_pending : (linkError s).pending = s.pending := rfl
@[simp] theorem linkError_clk : (linkError s).clk = s.clk := rfl
@[simp] theorem linkError_port : (linkError s).port = s.port := rfl
@[simp] theorem linkError_banks : (linkError s).banks = s.banks := rfl
@[simp] theorem linkError_planner : (linkError s).planner = s.planner := rfl
@[simp] theorem linkError_verdicts : (linkError s).verdicts = s.verdicts := rfl
@[simp] theorem linkError_firing : (linkError s).firing = s.firing := rfl
@[simp] theorem linkError_bus : (linkError s).bus = s.bus := rfl
@[simp] theorem linkError_nozzles : (linkError s).nozzles = s.nozzles := rfl
@[simp] theorem linkError_ctl : (linkError s).ctl = s.ctl := rfl
@[simp] theorem linkError_link : (linkError s).link = s.link := rfl
@[simp] theorem linkError_settings : (linkError s).settings = s.settings := rfl

@[simp] theorem setFrameRx_pending (r : FrameRx) : (setFrameRx r s).pending = s.pending := rfl
@[simp] theorem setFrameRx_clk (r : FrameRx) : (setFrameRx r s).clk = s.clk := rfl
@[simp] theorem setFrameRx_port (r : FrameRx) : (setFrameRx r s).port = s.port := rfl
@[simp] theorem setFrameRx_banks (r : FrameRx) : (setFrameRx r s).banks = s.banks := rfl
@[simp] theorem setFrameRx_planner (r : FrameRx) : (setFrameRx r s).planner = s.planner := rfl
@[simp] theorem setFrameRx_verdicts (r : FrameRx) : (setFrameRx r s).verdicts = s.verdicts := rfl
@[simp] theorem setFrameRx_firing (r : FrameRx) : (setFrameRx r s).firing = s.firing := rfl
@[simp] theorem setFrameRx_bus (r : FrameRx) : (setFrameRx r s).bus = s.bus := rfl
@[simp] theorem setFrameRx_nozzles (r : FrameRx) : (setFrameRx r s).nozzles = s.nozzles := rfl
@[simp] theorem setFrameRx_ctl (r : FrameRx) : (setFrameRx r s).ctl = s.ctl := rfl
@[simp] theorem setFrameRx_settings (r : FrameRx) : (setFrameRx r s).settings = s.settings := rfl
@[simp] theorem setFrameRx_notices (r : FrameRx) : (setFrameRx r s).notices = s.notices := rfl
@[simp] theorem setFrameRx_tally (r : FrameRx) : (setFrameRx r s).tally = s.tally := rfl

@[simp] theorem controlError_pending (r : FrameRx) : (controlError r s).pending = s.pending := rfl
@[simp] theorem controlError_clk (r : FrameRx) : (controlError r s).clk = s.clk := rfl
@[simp] theorem controlError_port (r : FrameRx) : (controlError r s).port = s.port := rfl
@[simp] theorem controlError_banks (r : FrameRx) : (controlError r s).banks = s.banks := rfl
@[simp] theorem controlError_planner (r : FrameRx) : (controlError r s).planner = s.planner := rfl
@[simp] theorem controlError_verdicts (r : FrameRx) : (controlError r s).verdicts = s.verdicts := rfl
@[simp] theorem controlError_firing (r : FrameRx) : (controlError r s).firing = s.firing := rfl
@[simp] theorem controlError_bus (r : FrameRx) : (controlError r s).bus = s.bus := rfl
@[simp] theorem controlError_nozzles (r : FrameRx) : (controlError r s).nozzles = s.nozzles := rfl
@[simp] theorem controlError_ctl (r : FrameRx) : (controlError r s).ctl = s.ctl := rfl
@[simp] theorem controlError_settings (r : FrameRx) : (controlError r s).settings = s.settings := rfl
@[simp] theorem controlError_notices (r : FrameRx) : (controlError r s).notices = s.notices := rfl

@[simp] theorem giveReply_pending (kind : Byte) (a : Answer) : (giveReply kind a s).pending = s.pending := rfl
@[simp] theorem giveReply_clk (kind : Byte) (a : Answer) : (giveReply kind a s).clk = s.clk := rfl
@[simp] theorem giveReply_port (kind : Byte) (a : Answer) : (giveReply kind a s).port = s.port := rfl
@[simp] theorem giveReply_banks (kind : Byte) (a : Answer) : (giveReply kind a s).banks = s.banks := rfl
@[simp] theorem giveReply_planner (kind : Byte) (a : Answer) : (giveReply kind a s).planner = s.planner := rfl
@[simp] theorem giveReply_verdicts (kind : Byte) (a : Answer) : (giveReply kind a s).verdicts = s.verdicts := rfl
@[simp] theorem giveReply_firing (kind : Byte) (a : Answer) : (giveReply kind a s).firing = s.firing := rfl
@[simp] theorem giveReply_bus (kind : Byte) (a : Answer) : (giveReply kind a s).bus = s.bus := rfl
@[simp] theorem giveReply_nozzles (kind : Byte) (a : Answer) : (giveReply kind a s).nozzles = s.nozzles := rfl
@[simp] theorem giveReply_ctl (kind : Byte) (a : Answer) : (giveReply kind a s).ctl = s.ctl := rfl
@[simp] theorem giveReply_settings (kind : Byte) (a : Answer) : (giveReply kind a s).settings = s.settings := rfl
@[simp] theorem giveReply_notices (kind : Byte) (a : Answer) : (giveReply kind a s).notices = s.notices := rfl
@[simp] theorem giveReply_tally (kind : Byte) (a : Answer) : (giveReply kind a s).tally = s.tally := rfl

@[simp] theorem updateSettings_pending (f : Settings → Settings) : (updateSettings f s).pending = s.pending := rfl
@[simp] theorem updateSettings_clk (f : Settings → Settings) : (updateSettings f s).clk = s.clk := rfl
@[simp] theorem updateSettings_port (f : Settings → Settings) : (updateSettings f s).port = s.port := rfl
@[simp] theorem updateSettings_banks (f : Settings → Settings) : (updateSettings f s).banks = s.banks := rfl
@[simp] theorem updateSettings_planner (f : Settings → Settings) : (updateSettings f s).planner = s.planner := rfl
@[simp] theorem updateSettings_verdicts (f : Settings → Settings) : (updateSettings f s).verdicts = s.verdicts := rfl
@[simp] theorem updateSettings_firing (f : Settings → Settings) : (updateSettings f s).firing = s.firing := rfl
@[simp] theorem updateSettings_bus (f : Settings → Settings) : (updateSettings f s).bus = s.bus := rfl
@[simp] theorem updateSettings_nozzles (f : Settings → Settings) : (updateSettings f s).nozzles = s.nozzles := rfl
@[simp] theorem updateSettings_ctl (f : Settings → Settings) : (updateSettings f s).ctl = s.ctl := rfl
@[simp] theorem updateSettings_link (f : Settings → Settings) : (updateSettings f s).link = s.link := rfl
@[simp] theorem updateSettings_notices (f : Settings → Settings) : (updateSettings f s).notices = s.notices := rfl
@[simp] theorem updateSettings_tally (f : Settings → Settings) : (updateSettings f s).tally = s.tally := rfl

@[simp] theorem storePeriod_pending (v : Nat) : (storePeriod v s).pending = s.pending := rfl
@[simp] theorem storePeriod_port (v : Nat) : (storePeriod v s).port = s.port := rfl
@[simp] theorem storePeriod_banks (v : Nat) : (storePeriod v s).banks = s.banks := rfl
@[simp] theorem storePeriod_planner (v : Nat) : (storePeriod v s).planner = s.planner := rfl
@[simp] theorem storePeriod_verdicts (v : Nat) : (storePeriod v s).verdicts = s.verdicts := rfl
@[simp] theorem storePeriod_firing (v : Nat) : (storePeriod v s).firing = s.firing := rfl
@[simp] theorem storePeriod_bus (v : Nat) : (storePeriod v s).bus = s.bus := rfl
@[simp] theorem storePeriod_nozzles (v : Nat) : (storePeriod v s).nozzles = s.nozzles := rfl
@[simp] theorem storePeriod_ctl (v : Nat) : (storePeriod v s).ctl = s.ctl := rfl
@[simp] theorem storePeriod_link (v : Nat) : (storePeriod v s).link = s.link := rfl
@[simp] theorem storePeriod_settings (v : Nat) : (storePeriod v s).settings = s.settings := rfl
@[simp] theorem storePeriod_notices (v : Nat) : (storePeriod v s).notices = s.notices := rfl
@[simp] theorem storePeriod_tally (v : Nat) : (storePeriod v s).tally = s.tally := rfl

@[simp] theorem storeMask_pending (mask : BitVec 11) : (storeMask mask s).pending = s.pending := rfl
@[simp] theorem storeMask_clk (mask : BitVec 11) : (storeMask mask s).clk = s.clk := rfl
@[simp] theorem storeMask_port (mask : BitVec 11) : (storeMask mask s).port = s.port := rfl
@[simp] theorem storeMask_banks (mask : BitVec 11) : (storeMask mask s).banks = s.banks := rfl
@[simp] theorem storeMask_planner (mask : BitVec 11) : (storeMask mask s).planner = s.planner := rfl
@[simp] theorem storeMask_verdicts (mask : BitVec 11) : (storeMask mask s).verdicts = s.verdicts := rfl
@[simp] theorem storeMask_firing (mask : BitVec 11) : (storeMask mask s).firing = s.firing := rfl
@[simp] theorem storeMask_bus (mask : BitVec 11) : (storeMask mask s).bus = s.bus := rfl
@[simp] theorem storeMask_nozzles (mask : BitVec 11) : (storeMask mask s).nozzles = s.nozzles := rfl
@[simp] theorem storeMask_ctl (mask : BitVec 11) : (storeMask mask s).ctl = s.ctl := rfl
@[simp] theorem storeMask_link (mask : BitVec 11) : (storeMask mask s).link = s.link := rfl
@[simp] theorem storeMask_tally (mask : BitVec 11) : (storeMask mask s).tally = s.tally := rfl

@[simp] theorem disarm_pending : (disarm s).pending = s.pending := rfl
@[simp] theorem disarm_clk : (disarm s).clk = s.clk := rfl
@[simp] theorem disarm_port : (disarm s).port = s.port := rfl
@[simp] theorem disarm_banks : (disarm s).banks = s.banks := rfl
@[simp] theorem disarm_planner : (disarm s).planner = s.planner := rfl
@[simp] theorem disarm_verdicts : (disarm s).verdicts = s.verdicts := rfl
@[simp] theorem disarm_firing : (disarm s).firing = s.firing := rfl
@[simp] theorem disarm_bus : (disarm s).bus = s.bus := rfl
@[simp] theorem disarm_nozzles : (disarm s).nozzles = s.nozzles := rfl
@[simp] theorem disarm_ctl : (disarm s).ctl = s.ctl := rfl
@[simp] theorem disarm_link : (disarm s).link = s.link := rfl
@[simp] theorem disarm_settings : (disarm s).settings = s.settings := rfl
@[simp] theorem disarm_tally : (disarm s).tally = s.tally := rfl

@[simp] theorem clearNotices_pending : (clearNotices s).pending = s.pending := rfl
@[simp] theorem clearNotices_clk : (clearNotices s).clk = s.clk := rfl
@[simp] theorem clearNotices_port : (clearNotices s).port = s.port := rfl
@[simp] theorem clearNotices_banks : (clearNotices s).banks = s.banks := rfl
@[simp] theorem clearNotices_planner : (clearNotices s).planner = s.planner := rfl
@[simp] theorem clearNotices_verdicts : (clearNotices s).verdicts = s.verdicts := rfl
@[simp] theorem clearNotices_firing : (clearNotices s).firing = s.firing := rfl
@[simp] theorem clearNotices_bus : (clearNotices s).bus = s.bus := rfl
@[simp] theorem clearNotices_nozzles : (clearNotices s).nozzles = s.nozzles := rfl
@[simp] theorem clearNotices_ctl : (clearNotices s).ctl = s.ctl := rfl
@[simp] theorem clearNotices_link : (clearNotices s).link = s.link := rfl
@[simp] theorem clearNotices_settings : (clearNotices s).settings = s.settings := rfl
@[simp] theorem clearNotices_tally : (clearNotices s).tally = s.tally := rfl

@[simp] theorem rearm_pending : (rearm s).pending = s.pending := rfl
@[simp] theorem rearm_clk : (rearm s).clk = s.clk := rfl
@[simp] theorem rearm_port : (rearm s).port = s.port := rfl
@[simp] theorem rearm_banks : (rearm s).banks = s.banks := rfl
@[simp] theorem rearm_planner : (rearm s).planner = s.planner := rfl
@[simp] theorem rearm_verdicts : (rearm s).verdicts = s.verdicts := rfl
@[simp] theorem rearm_firing : (rearm s).firing = s.firing := rfl
@[simp] theorem rearm_bus : (rearm s).bus = s.bus := rfl
@[simp] theorem rearm_nozzles : (rearm s).nozzles = s.nozzles := rfl
@[simp] theorem rearm_ctl : (rearm s).ctl = s.ctl := rfl
@[simp] theorem rearm_link : (rearm s).link = s.link := rfl
@[simp] theorem rearm_settings : (rearm s).settings = s.settings := rfl
@[simp] theorem rearm_tally : (rearm s).tally = s.tally := rfl

@[simp] theorem send_pending (h : Chute) (t : Transaction) (lane : Lane) : (send h t lane s).pending = s.pending := rfl
@[simp] theorem send_clk (h : Chute) (t : Transaction) (lane : Lane) : (send h t lane s).clk = s.clk := rfl
@[simp] theorem send_port (h : Chute) (t : Transaction) (lane : Lane) : (send h t lane s).port = s.port := rfl
@[simp] theorem send_banks (h : Chute) (t : Transaction) (lane : Lane) : (send h t lane s).banks = s.banks := rfl
@[simp] theorem send_planner (h : Chute) (t : Transaction) (lane : Lane) : (send h t lane s).planner = s.planner := rfl
@[simp] theorem send_verdicts (h : Chute) (t : Transaction) (lane : Lane) : (send h t lane s).verdicts = s.verdicts := rfl
@[simp] theorem send_firing (h : Chute) (t : Transaction) (lane : Lane) : (send h t lane s).firing = s.firing := rfl
@[simp] theorem send_nozzles (h : Chute) (t : Transaction) (lane : Lane) : (send h t lane s).nozzles = s.nozzles := rfl
@[simp] theorem send_ctl (h : Chute) (t : Transaction) (lane : Lane) : (send h t lane s).ctl = s.ctl := rfl
@[simp] theorem send_link (h : Chute) (t : Transaction) (lane : Lane) : (send h t lane s).link = s.link := rfl
@[simp] theorem send_settings (h : Chute) (t : Transaction) (lane : Lane) : (send h t lane s).settings = s.settings := rfl
@[simp] theorem send_notices (h : Chute) (t : Transaction) (lane : Lane) : (send h t lane s).notices = s.notices := rfl
@[simp] theorem send_tally (h : Chute) (t : Transaction) (lane : Lane) : (send h t lane s).tally = s.tally := rfl

@[simp] theorem flipLane_pending (h : Chute) (lane : Lane) : (flipLane h lane s).pending = s.pending := rfl
@[simp] theorem flipLane_clk (h : Chute) (lane : Lane) : (flipLane h lane s).clk = s.clk := rfl
@[simp] theorem flipLane_port (h : Chute) (lane : Lane) : (flipLane h lane s).port = s.port := rfl
@[simp] theorem flipLane_banks (h : Chute) (lane : Lane) : (flipLane h lane s).banks = s.banks := rfl
@[simp] theorem flipLane_planner (h : Chute) (lane : Lane) : (flipLane h lane s).planner = s.planner := rfl
@[simp] theorem flipLane_verdicts (h : Chute) (lane : Lane) : (flipLane h lane s).verdicts = s.verdicts := rfl
@[simp] theorem flipLane_firing (h : Chute) (lane : Lane) : (flipLane h lane s).firing = s.firing := rfl
@[simp] theorem flipLane_nozzles (h : Chute) (lane : Lane) : (flipLane h lane s).nozzles = s.nozzles := rfl
@[simp] theorem flipLane_ctl (h : Chute) (lane : Lane) : (flipLane h lane s).ctl = s.ctl := rfl
@[simp] theorem flipLane_link (h : Chute) (lane : Lane) : (flipLane h lane s).link = s.link := rfl
@[simp] theorem flipLane_settings (h : Chute) (lane : Lane) : (flipLane h lane s).settings = s.settings := rfl

@[simp] theorem starveEntry_pending (g : Nat) (x : Entry) : (starveEntry g x s).pending = s.pending := rfl
@[simp] theorem starveEntry_clk (g : Nat) (x : Entry) : (starveEntry g x s).clk = s.clk := rfl
@[simp] theorem starveEntry_port (g : Nat) (x : Entry) : (starveEntry g x s).port = s.port := rfl
@[simp] theorem starveEntry_banks (g : Nat) (x : Entry) : (starveEntry g x s).banks = s.banks := rfl
@[simp] theorem starveEntry_planner (g : Nat) (x : Entry) : (starveEntry g x s).planner = s.planner := rfl
@[simp] theorem starveEntry_verdicts (g : Nat) (x : Entry) : (starveEntry g x s).verdicts = s.verdicts := rfl
@[simp] theorem starveEntry_bus (g : Nat) (x : Entry) : (starveEntry g x s).bus = s.bus := rfl
@[simp] theorem starveEntry_nozzles (g : Nat) (x : Entry) : (starveEntry g x s).nozzles = s.nozzles := rfl
@[simp] theorem starveEntry_ctl (g : Nat) (x : Entry) : (starveEntry g x s).ctl = s.ctl := rfl
@[simp] theorem starveEntry_link (g : Nat) (x : Entry) : (starveEntry g x s).link = s.link := rfl
@[simp] theorem starveEntry_settings (g : Nat) (x : Entry) : (starveEntry g x s).settings = s.settings := rfl
@[simp] theorem starveEntry_notices (g : Nat) (x : Entry) : (starveEntry g x s).notices = s.notices := rfl

@[simp] theorem starveLate_pending (g : Nat) (e : Entry) : (starveLate g e s).pending = s.pending := rfl
@[simp] theorem starveLate_clk (g : Nat) (e : Entry) : (starveLate g e s).clk = s.clk := rfl
@[simp] theorem starveLate_port (g : Nat) (e : Entry) : (starveLate g e s).port = s.port := rfl
@[simp] theorem starveLate_banks (g : Nat) (e : Entry) : (starveLate g e s).banks = s.banks := rfl
@[simp] theorem starveLate_planner (g : Nat) (e : Entry) : (starveLate g e s).planner = s.planner := rfl
@[simp] theorem starveLate_verdicts (g : Nat) (e : Entry) : (starveLate g e s).verdicts = s.verdicts := rfl
@[simp] theorem starveLate_bus (g : Nat) (e : Entry) : (starveLate g e s).bus = s.bus := rfl
@[simp] theorem starveLate_nozzles (g : Nat) (e : Entry) : (starveLate g e s).nozzles = s.nozzles := rfl
@[simp] theorem starveLate_ctl (g : Nat) (e : Entry) : (starveLate g e s).ctl = s.ctl := rfl
@[simp] theorem starveLate_link (g : Nat) (e : Entry) : (starveLate g e s).link = s.link := rfl
@[simp] theorem starveLate_settings (g : Nat) (e : Entry) : (starveLate g e s).settings = s.settings := rfl
@[simp] theorem starveLate_notices (g : Nat) (e : Entry) : (starveLate g e s).notices = s.notices := rfl

@[simp] theorem addToPurge_pending (g ident : Nat) : (addToPurge g ident s).pending = s.pending := rfl
@[simp] theorem addToPurge_clk (g ident : Nat) : (addToPurge g ident s).clk = s.clk := rfl
@[simp] theorem addToPurge_port (g ident : Nat) : (addToPurge g ident s).port = s.port := rfl
@[simp] theorem addToPurge_banks (g ident : Nat) : (addToPurge g ident s).banks = s.banks := rfl
@[simp] theorem addToPurge_planner (g ident : Nat) : (addToPurge g ident s).planner = s.planner := rfl
@[simp] theorem addToPurge_verdicts (g ident : Nat) : (addToPurge g ident s).verdicts = s.verdicts := rfl
@[simp] theorem addToPurge_firing (g ident : Nat) : (addToPurge g ident s).firing = s.firing := rfl
@[simp] theorem addToPurge_bus (g ident : Nat) : (addToPurge g ident s).bus = s.bus := rfl
@[simp] theorem addToPurge_nozzles (g ident : Nat) : (addToPurge g ident s).nozzles = s.nozzles := rfl
@[simp] theorem addToPurge_link (g ident : Nat) : (addToPurge g ident s).link = s.link := rfl
@[simp] theorem addToPurge_settings (g ident : Nat) : (addToPurge g ident s).settings = s.settings := rfl
@[simp] theorem addToPurge_notices (g ident : Nat) : (addToPurge g ident s).notices = s.notices := rfl
@[simp] theorem addToPurge_tally (g ident : Nat) : (addToPurge g ident s).tally = s.tally := rfl

@[simp] theorem tick_pending : (tick s).pending = s.pending := rfl
@[simp] theorem tick_port : (tick s).port = s.port := rfl
@[simp] theorem tick_banks : (tick s).banks = s.banks := rfl
@[simp] theorem tick_planner : (tick s).planner = s.planner := rfl
@[simp] theorem tick_verdicts : (tick s).verdicts = s.verdicts := rfl
@[simp] theorem tick_firing : (tick s).firing = s.firing := rfl
@[simp] theorem tick_bus : (tick s).bus = s.bus := rfl
@[simp] theorem tick_nozzles : (tick s).nozzles = s.nozzles := rfl
@[simp] theorem tick_ctl : (tick s).ctl = s.ctl := rfl
@[simp] theorem tick_link : (tick s).link = s.link := rfl
@[simp] theorem tick_settings : (tick s).settings = s.settings := rfl
@[simp] theorem tick_notices : (tick s).notices = s.notices := rfl
@[simp] theorem tick_tally : (tick s).tally = s.tally := rfl

@[simp] theorem restartBanks_pending : (restartBanks s).pending = s.pending := rfl
@[simp] theorem restartBanks_clk : (restartBanks s).clk = s.clk := rfl
@[simp] theorem restartBanks_port : (restartBanks s).port = s.port := rfl
@[simp] theorem restartBanks_planner : (restartBanks s).planner = s.planner := rfl
@[simp] theorem restartBanks_verdicts : (restartBanks s).verdicts = s.verdicts := rfl
@[simp] theorem restartBanks_firing : (restartBanks s).firing = s.firing := rfl
@[simp] theorem restartBanks_bus : (restartBanks s).bus = s.bus := rfl
@[simp] theorem restartBanks_nozzles : (restartBanks s).nozzles = s.nozzles := rfl
@[simp] theorem restartBanks_ctl : (restartBanks s).ctl = s.ctl := rfl
@[simp] theorem restartBanks_link : (restartBanks s).link = s.link := rfl
@[simp] theorem restartBanks_settings : (restartBanks s).settings = s.settings := rfl
@[simp] theorem restartBanks_notices : (restartBanks s).notices = s.notices := rfl
@[simp] theorem restartBanks_tally : (restartBanks s).tally = s.tally := rfl

/-! ### Reading after writing -/

@[simp] theorem queue_setQueue_same (g : Nat) (q : List Entry) : (s.setQueue g q).queue g = q := by
  simp [State.queue, State.setQueue]

theorem queue_setQueue_other {g g' : Nat} (h : g' ≠ g) (q : List Entry) : (s.setQueue g q).queue g' = s.queue g' := by
  simp [State.queue, State.setQueue, Tab.get_set_other, h]

@[simp] theorem nozzle_setNozzle_same (g : Nat) (r : NozzleRecord) : (s.setNozzle g r).nozzle g = r := by
  simp [State.nozzle, State.setNozzle]

theorem nozzle_setNozzle_other {g g' : Nat} (h : g' ≠ g) (r : NozzleRecord) :
    (s.setNozzle g r).nozzle g' = s.nozzle g' := by
  simp [State.nozzle, State.setNozzle, Tab.get_set_other, h]

@[simp] theorem openCount_setOpenCount_same (h : Chute) (n : Nat) : (s.setOpenCount h n).openCount h = n := by
  simp [State.openCount, State.setOpenCount]

theorem openCount_setOpenCount_other {h k : Chute} (hk : k ≠ h) (n : Nat) :
    (s.setOpenCount h n).openCount k = s.openCount k := by
  simp [State.openCount, State.setOpenCount, PerChute.get_set_other, hk]

@[simp] theorem busOf_setBus_same (h : Chute) (b : BusController) : (s.setBus h b).busOf h = b := by
  simp [State.busOf, State.setBus]

theorem busOf_setBus_other {h k : Chute} (hk : k ≠ h) (b : BusController) : (s.setBus h b).busOf k = s.busOf k := by
  simp [State.busOf, State.setBus, PerChute.get_set_other, hk]

/-- A tally record after it is replaced. -/
@[simp] theorem sighting_setSighting_same (t : TallyTable) (h : Chute) (k : Nat) (r : SightingTally) :
    (t.setSighting h k r).sighting h k = r := by
  simp [TallyTable.sighting, TallyTable.setSighting]

theorem tallyIndex_ne {h h' : Chute} {k k' : Nat} (hk : k < 16) (hk' : k' < 16) (hne : ¬(h' = h ∧ k' = k)) :
    tallyIndex h' k' ≠ tallyIndex h k := by
  intro he
  unfold tallyIndex at he
  exact hne ⟨Fin.ext (by omega), by omega⟩

/-- Replacing one tally record leaves every other one alone. -/
theorem sighting_setSighting_other (t : TallyTable) {h h' : Chute} {k k' : Nat} (r : SightingTally) (hk : k < 16)
    (hk' : k' < 16) (hne : ¬(h' = h ∧ k' = k)) : (t.setSighting h k r).sighting h' k' = t.sighting h' k' := by
  simp [TallyTable.sighting, TallyTable.setSighting, Tab.get_set_other, tallyIndex_ne hk hk' hne]

theorem place_injective {k k' : NoticeKind} (h : k.place = k'.place) : k = k' := by
  cases k <;> cases k' <;> first | rfl | (simp [NoticeKind.place] at h)

/-- A notice record after its kind is set (R174). -/
theorem record_set_same (n : NoticeTable) (mask : BitVec 11) (k : NoticeKind) (h : Option Chute) :
    (n.set mask k h).record k = ⟨true, min ((n.record k).count + 1) 255, (n.record k).mask ||| chuteMask h⟩ := by
  simp [NoticeTable.set, NoticeTable.judge, NoticeTable.record, Config.noticeCountMax]

/-- Setting one notice leaves every other record alone (R174). -/
theorem record_set_other (n : NoticeTable) (mask : BitVec 11) {k k' : NoticeKind} (h : Option Chute) (hk : k' ≠ k) :
    (n.set mask k h).record k' = n.record k' := by
  have : k'.place ≠ k.place := fun he => hk (place_injective he)
  simp [NoticeTable.set, NoticeTable.judge, NoticeTable.record, Tab.get_set_other, this]

end Sys2Proof.Machine
end

