-- ==== Sys2Proof/Laws/Ops.lean ====
section
/-! SUPPORT. One lemma for each shared operation that branches: which blocks of the state it can change. A block that is
not named is the old one; `congrArg State.clk (conclude_frame s)` and its like read it off. -/

namespace Sys2Proof.Machine

variable (s : State)

/-! ### Events, operating states, conclusions -/

theorem live_awake {f : State → State} (h : Awake s) : live f s = .next (f s) := by
  simp [live, show s.ctl.rstn = false from h]

theorem live_held {f : State → State} (h : s.ctl.rstn = true) : live f s = .next s := by
  simp [live, h]

/-- Every event ends in a next state. -/
theorem live_next (f : State → State) : ∃ t, live f s = .next t := ⟨_, rfl⟩

/-- What entering an operating state does (R30, R147). -/
theorem enterState_eq (op : OpState) : enterState op s = { s with
    ctl := { s.ctl with op := op }
    link := { s.link with window := if s.ctl.op = op then s.link.window else none } } := by
  unfold enterState
  split <;> simp_all [closeWindow]

/-- What the end of going dry does (R106). -/
theorem concludeDry_eq : concludeDry s = { s with
    ctl := if s.ctl.goingDry = true ∧ anyWet s = false then { s.ctl with goingDry := false, dry := true } else s.ctl } := by
  unfold concludeDry
  cases hg : s.ctl.goingDry <;> cases hw : anyWet s <;> simp

theorem completePurge_frame : completePurge s = { s with
    ctl := { s.ctl with purge := none, op := .standby }
    link := (completePurge s).link
    notices := (completePurge s).notices } := by
  simp [completePurge, enterState_eq, setNotice]

theorem concludePurge_frame : concludePurge s = { s with
    ctl := (concludePurge s).ctl, link := (concludePurge s).link, notices := (concludePurge s).notices } := by
  unfold concludePurge
  split
  · rfl
  · simp only
    split
    · rw [completePurge_frame]
    · rfl

/-! ### The end of a wind-down (R159) -/

/-- The work is done exactly when nothing of it is left. -/
theorem workDone_iff : workDone s = true ↔ NothingLeft s := by
  simp only [workDone, NothingLeft, queuesEmpty, Bool.and_eq_true, List.isEmpty_iff, Option.isNone_iff_eq_none,
    List.all_eq_true]
  tauto

/-- All that the end of a wind-down can do: nothing, or the warm reset of a wind-down whose work is done. -/
theorem endWindDown_cases :
    (endWindDown s = s ∧ ¬(s.ctl.op = .windDown ∧ NothingLeft s)) ∨
      (endWindDown s = warmReset s ∧ s.ctl.op = .windDown ∧ NothingLeft s) := by
  have := workDone_iff s
  unfold endWindDown
  split <;> simp_all

theorem endWindDown_of_op_ne (h : s.ctl.op ≠ .windDown) : endWindDown s = s := by
  simp [endWindDown, h]

/-- With work left a wind-down goes on. -/
theorem endWindDown_of_work (h : ¬NothingLeft s) : endWindDown s = s := by
  rw [← workDone_iff] at h
  simp [endWindDown, h]

/-- A step that leaves a sighting to be planned ends no wind-down. -/
theorem endWindDown_of_planning {r : PlanRecord} (h : s.planner = some r) : endWindDown s = s :=
  endWindDown_of_work s fun hn => by simp [hn.2.1] at h

/-- With no warm reset owed none is taken. -/
theorem takeOwedReset_of_not_due (h : s.ctl.resetDue = false) : takeOwedReset s = s := by
  simp [takeOwedReset, h]

/-! ### What is judged when entries leave queues -/

/-- Going dry and the purge change neither the operating state of a wind-down nor the work it has left. -/
theorem conclude_of_work (h : ¬NothingLeft s) : conclude s = concludePurge (concludeDry s) := by
  unfold conclude
  rw [concludePurge_frame, concludeDry_eq]
  exact endWindDown_of_work _ h

theorem concludeDry_op : (concludeDry s).ctl.op = s.ctl.op := by
  rw [concludeDry_eq]
  simp only
  split <;> rfl

/-- A purge ends in STANDBY or goes on (R155). -/
theorem concludePurge_op : (concludePurge s).ctl.op = s.ctl.op ∨ (concludePurge s).ctl.op = .standby := by
  unfold concludePurge
  split
  · exact .inl rfl
  · simp only
    split
    · exact .inr (by rw [completePurge_frame])
    · exact .inl rfl

theorem conclude_of_op_ne (h : s.ctl.op ≠ .windDown) : conclude s = concludePurge (concludeDry s) := by
  refine endWindDown_of_op_ne _ ?_
  obtain h' | h' := concludePurge_op (concludeDry s) <;> rw [h']
  · rwa [concludeDry_op]
  · simp

/-- Outside a wind-down only the state controller's block, the window and the notices can change. -/
theorem conclude_frame (h : s.ctl.op ≠ .windDown) : conclude s = { s with
    ctl := (conclude s).ctl, link := (conclude s).link, notices := (conclude s).notices } := by
  rw [conclude_of_op_ne s h, concludePurge_frame, concludeDry_eq]

/-- With no purge under way and outside a wind-down only going dry is concluded. -/
theorem conclude_of_no_purge (h : s.ctl.purge = none) (ho : s.ctl.op ≠ .windDown) : conclude s = concludeDry s := by
  have : (concludeDry s).ctl.purge = none := by
    rw [concludeDry_eq]
    simp only
    split <;> simpa using h
  simp [conclude_of_op_ne s ho, concludePurge, this]

/-- With no purge and no wind-down under way and not going dry nothing is concluded. -/
theorem conclude_of_nothing_open (h : s.ctl.purge = none) (hd : s.ctl.goingDry = false) (ho : s.ctl.op ≠ .windDown) :
    conclude s = s := by
  rw [conclude_of_no_purge s h ho, concludeDry_eq]
  simp [hd]

/-! ### Offers and placements -/

theorem offer_frame (g : Nat) (c e : Time) (prio : Nat) (o : Origin) : (offer g c e prio o s).1 = { s with
    firing := (offer g c e prio o s).1.firing
    ctl := { s.ctl with purge := (offer g c e prio o s).1.ctl.purge } } := by
  unfold offer
  split
  · rfl
  · simp only
    split
    · split <;> simp [State.setQueue]
    · split <;> simp [State.setQueue]

/-- An offer is answered blind exactly when the nozzle is out of service (R65). -/
theorem offer_blind (g : Nat) (c e : Time) (prio : Nat) (o : Origin) :
    (offer g c e prio o s).2 = .blind ↔ (s.nozzle g).state ≠ .inService := by
  unfold offer State.inService
  by_cases h : (s.nozzle g).state = .inService
  · simp only [h]
    simp only [beq_self_eq_true, Bool.not_true, Bool.false_eq_true, if_false]
    split <;> split <;> simp
  · simp [h]

theorem placeOne_frame (prio : Nat) (f : PlanFiring) : (placeOne prio s f).1 = { s with
    firing := (placeOne prio s f).1.firing
    ctl := { s.ctl with purge := (placeOne prio s f).1.ctl.purge } } := by
  unfold placeOne
  split
  · rfl
  · split
    · rfl
    · have h := offer_frame s f.nozzle f.command f.stop prio .sighting
      revert h
      generalize offer f.nozzle f.command f.stop prio .sighting s = r
      rcases r with ⟨t, _ | _ | _ | _⟩ <;> exact id

theorem placePlan_frame (prio : Nat) (plan : List PlanFiring) : (placePlan prio plan s).1 = { s with
    firing := (placePlan prio plan s).1.firing
    ctl := { s.ctl with purge := (placePlan prio plan s).1.ctl.purge } } := by
  induction plan generalizing s with
  | nil => rfl
  | cons f fs ih =>
    simp only [placePlan]
    generalize ht : (placePlan prio fs (placeOne prio s f).1).1 = t
    have h := ih (placeOne prio s f).1
    rw [ht] at h
    rw [h, placeOne_frame]

theorem placeAndCount_frame (h : Chute) (k prio : Nat) (plan : List PlanFiring) : placeAndCount h k prio plan s = { s with
    firing := (placeAndCount h k prio plan s).firing
    ctl := { s.ctl with purge := (placeAndCount h k prio plan s).ctl.purge }
    tally := s.tally.countSighting h k (placementOutcome (placePlan prio plan s).2) } := by
  unfold placeAndCount countSighting
  have := placePlan_frame s prio plan
  simp only
  rw [this]

theorem purgeOffer_frame (width n : Nat) (h : Chute) : purgeOffer width n h s = { s with
    firing := (purgeOffer width n h s).firing
    ctl := { s.ctl with purge := (purgeOffer width n h s).ctl.purge } } := by
  unfold purgeOffer
  simp only
  split
  · have hf := offer_frame s (globalId h n) (plus s.clk.now s.settings.leadMin)
      (plus (plus s.clk.now s.settings.leadMin) width) 0 .purge
    revert hf
    generalize offer (globalId h n) (plus s.clk.now s.settings.leadMin)
      (plus (plus s.clk.now s.settings.leadMin) width) 0 .purge s = r
    rcases r with ⟨t, _ | _ | _ | _⟩ <;> (intro hf; simp only at hf ⊢; rw [hf]; try rfl)
  · rfl

/-! ### The planner and the held list -/

theorem abandonPlanning_frame : abandonPlanning s = { s with
    planner := none, banks := (abandonPlanning s).banks, tally := (abandonPlanning s).tally } := by
  unfold abandonPlanning
  split
  · rename_i h
    cases s
    simp_all
  · rfl

theorem applyPolicy_frame (e : HeldEntry) : applyPolicy e s = { s with
    firing := (applyPolicy e s).firing
    ctl := { s.ctl with purge := (applyPolicy e s).ctl.purge }
    tally := (applyPolicy e s).tally } := by
  unfold applyPolicy
  split
  · rw [placeAndCount_frame]
  · rfl

theorem resolveAtOnce_frame (e : HeldEntry) : resolveAtOnce e s = { s with
    firing := (resolveAtOnce e s).firing
    ctl := { s.ctl with purge := (resolveAtOnce e s).ctl.purge }
    tally := (resolveAtOnce e s).tally } := by
  unfold resolveAtOnce
  rw [applyPolicy_frame]
  rfl

theorem expireSighting_frame (e : HeldEntry) : expireSighting e s = { s with
    verdicts := { s.verdicts with rings := s.verdicts.rings.modify e.chute (pushRing e.tag) }
    firing := (expireSighting e s).firing
    ctl := { s.ctl with purge := (expireSighting e s).ctl.purge }
    tally := (expireSighting e s).tally } := by
  unfold expireSighting
  rw [applyPolicy_frame]
  rfl

theorem handOff_frame (e : HeldEntry) : handOff e s = { s with
    verdicts := (handOff e s).verdicts
    firing := (handOff e s).firing
    ctl := { s.ctl with purge := (handOff e s).ctl.purge }
    notices := (handOff e s).notices
    tally := (handOff e s).tally } := by
  unfold handOff
  split
  · rw [expireSighting_frame]
  · split
    · rw [resolveAtOnce_frame]; rfl
    · split
      · rw [resolveAtOnce_frame]; rfl
      · rfl

/-- All that a verdict does before the end of a wind-down is judged. -/
theorem takeVerdict_frame (h : Chute) (tag : Byte) (confirm : Bool) : ∃ t : State,
    (takeVerdict h tag confirm s = t ∨ takeVerdict h tag confirm s = endWindDown t) ∧
    t = { s with verdicts := t.verdicts, firing := t.firing, ctl := { s.ctl with purge := t.ctl.purge }
                 tally := t.tally } := by
  unfold takeVerdict
  split
  · split
    · refine ⟨_, .inr rfl, ?_⟩
      simp only
      split
      · rw [placeAndCount_frame]; rfl
      · rfl
    · refine ⟨_, .inl rfl, ?_⟩
      unfold verdictWithoutEntry
      split <;> rfl
  · exact ⟨_, .inl rfl, rfl⟩

/-! ### Nozzle failures, starts and ends -/

theorem makeFailed_frame (g : Nat) (cause : FailureCause) : makeFailed g cause s = { s with
    nozzles := (makeFailed g cause s).nozzles
    firing := (makeFailed g cause s).firing
    notices := (makeFailed g cause s).notices
    tally := (makeFailed g cause s).tally } := by
  unfold makeFailed
  simp only
  split
  · rfl
  · split <;> rfl

/-- The nozzle table after a failure: a FAILED nozzle keeps its cause, any other takes the one given (R134). -/
theorem makeFailed_nozzle (g : Nat) (cause : FailureCause) : (makeFailed g cause s).nozzle g =
    if (s.nozzle g).state = .failed then s.nozzle g else { s.nozzle g with state := .failed, cause := cause } := by
  unfold makeFailed
  simp only
  split
  · rfl
  · split <;> simp [State.nozzle, State.setNozzle]

theorem makeFailed_nozzle_other (g : Nat) (cause : FailureCause) {g' : Nat} (h : g' ≠ g) :
    (makeFailed g cause s).nozzle g' = s.nozzle g' := by
  unfold makeFailed
  simp only
  split
  · rfl
  · split <;> simp [State.nozzle, State.setNozzle, Tab.get_set_other, h]

theorem closeEarly_frame (g : Nat) (e : Entry) : closeEarly g e s = { s with
    firing := (closeEarly g e s).firing, bus := (closeEarly g e s).bus } := by
  unfold closeEarly
  simp only
  split
  · rfl
  · split <;> rfl

theorem admitEntry_frame (g : Nat) (x : Entry) : admitEntry g x s = { s with
    firing := (admitEntry g x s).firing, bus := (admitEntry g x s).bus, tally := (admitEntry g x s).tally } := by
  unfold admitEntry
  simp only
  split <;> rfl

theorem judgeStart_frame (g : Nat) (x : Entry) : judgeStart g x s = { s with
    firing := (judgeStart g x s).firing, bus := (judgeStart g x s).bus, tally := (judgeStart g x s).tally } := by
  unfold judgeStart arbitrate
  simp only
  split
  · exact admitEntry_frame s g x
  · split
    · split
      · split
        · rw [admitEntry_frame, closeEarly_frame]; rfl
        · rfl
      · rfl
    · rfl

theorem endEntry_frame (g : Nat) (e : Entry) : endEntry g e s = { s with
    firing := (endEntry g e s).firing, bus := (endEntry g e s).bus } := by
  unfold endEntry
  simp only
  split <;> rfl

/-! ### The valve bus -/

theorem grantLoop_frame (h : Chute) (fuel : Nat) : grantLoop h fuel s = { s with
    firing := (grantLoop h fuel s).firing, bus := (grantLoop h fuel s).bus, tally := (grantLoop h fuel s).tally } := by
  induction fuel generalizing s with
  | zero => rfl
  | succ fuel ih =>
    unfold grantLoop
    split
    · rfl
    · simp only
      split
      · split
        · rw [ih]; rfl
        · split
          · rw [ih]; rfl
          · split
            · rw [ih]; rfl
            · rfl
      · rfl

theorem grantNext_frame (h : Chute) : grantNext h s = { s with
    firing := (grantNext h s).firing, bus := (grantNext h s).bus, tally := (grantNext h s).tally } := by
  unfold grantNext
  simp only
  split
  · rfl
  · split
    · rfl
    · exact grantLoop_frame s h _

theorem grantAll_frame : grantAll s = { s with
    firing := (grantAll s).firing, bus := (grantAll s).bus, tally := (grantAll s).tally } := by
  unfold grantAll
  rw [grantNext_frame, grantNext_frame, grantNext_frame, grantNext_frame]

/-- A bus at which a CLOSE ALL waits, once it has granted: a free bus sends the CLOSE ALL on lane A (R115, R123). -/
def BusController.closeAllGranted (b : BusController) : BusController :=
  match b.inFlight with
  | some _ => b
  | none => { b with
    closeAll := false
    tag := b.tag + 1
    inFlight := some ⟨.closeAll, 0, 0, .a, b.tag, false, none, false⟩ }

theorem grantNext_of_closeAll (h : Chute) (hc : (s.busOf h).closeAll = true) :
    grantNext h s = { s with bus := s.bus.set h (s.busOf h).closeAllGranted } := by
  unfold grantNext BusController.closeAllGranted
  unfold State.busOf at hc ⊢
  cases hi : (s.bus.get h).inFlight with
  | none => simp [hi, hc, startCloseAll, send, State.setBus, State.busOf]
  | some t => simp [hi]

theorem grantAll_of_closeAll (hc : ∀ h, (s.busOf h).closeAll = true) :
    grantAll s = { s with bus := s.bus.map fun _ b => b.closeAllGranted } := by
  unfold grantAll
  rw [grantNext_of_closeAll s 0 (hc 0)]
  rw [grantNext_of_closeAll _ 1 (by simpa [State.busOf, PerChute.set, PerChute.get] using hc 1)]
  rw [grantNext_of_closeAll _ 2 (by simpa [State.busOf, PerChute.set, PerChute.get] using hc 2)]
  rw [grantNext_of_closeAll _ 3 (by simpa [State.busOf, PerChute.set, PerChute.get] using hc 3)]
  rfl

/-- A warm reset keeps the queue of commands, the nozzle records and the settings (R132, R161). -/
theorem warmReset_keeps : (warmReset s).pending = s.pending ∧ (warmReset s).nozzles = s.nozzles ∧
    (warmReset s).settings = s.settings := by
  unfold warmReset
  simp only
  rw [grantAll_frame]
  split <;> simp [setNotice]

theorem freeBus_frame (h : Chute) : freeBus h s = { s with
    firing := (freeBus h s).firing, bus := (freeBus h s).bus, tally := (freeBus h s).tally } := by
  unfold freeBus
  rw [grantNext_frame]
  rfl

theorem nozzleEffect_frame (t : Transaction) (result : LastResult) (m : Nat) : nozzleEffect t result m s = { s with
    nozzles := (nozzleEffect t result m s).nozzles
    firing := (nozzleEffect t result m s).firing
    notices := (nozzleEffect t result m s).notices
    tally := (nozzleEffect t result m s).tally } := by
  unfold nozzleEffect
  split
  · rfl
  · unfold openNoReply
    simp only
    split
    · rw [makeFailed_frame]; rfl
    · rfl
  · unfold openCoilFault
    rw [makeFailed_frame]; rfl
  · rfl
  · unfold closeNotConfirmed
    rw [makeFailed_frame]; rfl
  · unfold closeNotConfirmed
    rw [makeFailed_frame]; rfl
  · rfl

theorem openCompleted_frame (g : Nat) (e : Entry) : openCompleted g e s = { s with
    firing := (openCompleted g e s).firing, bus := (openCompleted g e s).bus } := by
  unfold openCompleted
  simp only
  split <;> rfl

theorem dispatchEffect_frame (t : Transaction) (result : LastResult) : dispatchEffect t result s = { s with
    firing := (dispatchEffect t result s).firing
    bus := (dispatchEffect t result s).bus
    tally := (dispatchEffect t result s).tally } := by
  unfold dispatchEffect
  split
  · unfold dispatchOpen
    split
    · rfl
    · simp only
      generalize (if result = LastResult.done then ChuteCounter.opened else ChuteCounter.unconfirmed) = c
      split
      · rw [openCompleted_frame]; rfl
      · rfl
  · unfold dispatchClose
    split
    · split <;> rfl
    · rfl
  · rfl

/-! ### Counting abandoned sightings -/

/-- A sighting record with `n` more ABANDONED, as counting them one by one leaves it (R180). -/
def SightingTally.abandon (t : SightingTally) (n : Nat) : SightingTally :=
  { t with abandoned := if n = 0 then t.abandoned else min (t.abandoned + n) 4294967295 }

theorem SightingTally.abandon_succ (t : SightingTally) (n : Nat) :
    (t.add .abandoned 1).abandon n = t.abandon (n + 1) := by
  unfold SightingTally.abandon SightingTally.add satAdd Config.counterMax
  by_cases h : n = 0 <;> simp [h]
  omega

theorem SightingTally.abandon_abandon (t : SightingTally) (m n : Nat) :
    (t.abandon m).abandon n = t.abandon (m + n) := by
  unfold SightingTally.abandon
  by_cases h : m = 0 <;> by_cases h' : n = 0 <;> simp [h, h']
  omega

/-- Counting every member of a list ABANDONED: each record takes its own members, nothing else changes. -/
theorem sighting_foldl_abandoned {α : Type} (chute : α → Chute) (cls : α → Nat) (l : List α) (t : TallyTable) :
    (l.foldl (fun t x => t.countSighting (chute x) (cls x) .abandoned) t).chutes = t.chutes ∧
    (l.foldl (fun t x => t.countSighting (chute x) (cls x) .abandoned) t).link = t.link ∧
    ((∀ x ∈ l, cls x < 16) → ∀ (h : Chute) (k : Nat), k < 16 →
      (l.foldl (fun t x => t.countSighting (chute x) (cls x) .abandoned) t).sighting h k
        = (t.sighting h k).abandon (l.countP fun x => chute x == h && cls x == k)) := by
  induction l generalizing t with
  | nil => exact ⟨rfl, rfl, fun _ _ _ _ => by simp [SightingTally.abandon]⟩
  | cons x l ih =>
    obtain ⟨h1, h2, h3⟩ := ih (t.countSighting (chute x) (cls x) .abandoned)
    refine ⟨h1, h2, fun hl h k hk => ?_⟩
    rw [List.foldl_cons, h3 (fun y hy => hl y (by simp [hy])) h k hk, List.countP_cons]
    by_cases hx : chute x = h ∧ cls x = k
    · obtain ⟨rfl, rfl⟩ := hx
      simp only [TallyTable.countSighting, sighting_setSighting_same, SightingTally.abandon_succ, beq_self_eq_true,
        Bool.and_self, if_true]
    · have hb : (chute x == h && cls x == k) = false := by simpa using hx
      rw [TallyTable.countSighting, sighting_setSighting_other _ _ (hl x (by simp)) hk (by tauto), hb]
      simp

end Sys2Proof.Machine
end

