-- ==== Sys2Proof/Laws/Commands.lean ====
section
/-! SUPPORT. How a record and a command reach the operation that acts on them, and what the operations that commands
share do. -/

namespace Sys2Proof.Machine

variable (s : State)

/-! ### Records -/

/-- Setting the receiver to what it is already changes nothing. -/
theorem setRecordRx_self {r : RecordRx} (h : s.port.rx = r) : setRecordRx r s = s := by
  subst h
  rfl

/-- A record that is decoded at all is twelve bytes long. -/
theorem length_of_decodeRecord {bytes : List Byte} (h : decodeRecord bytes ≠ .bad) : bytes.length = 12 := by
  unfold decodeRecord at h
  split at h
  · rfl
  · exact absurd rfl h

/-- Twelve bytes that an aligned receiver takes are one record (R10). -/
theorem recordBytesIn_whole {bytes : List Byte} (hr : s.port.rx = .collecting []) (hl : bytes.length = 12) :
    recordBytesIn bytes s = completeRecord bytes s := by
  match bytes, hl with
  | [b0, b1, b2, b3, b4, b5, b6, b7, b8, b9, b10, b11], _ =>
    simp [recordBytesIn, recordByte, hr, setRecordRx]
    unfold completeRecord setRecordRx
    rfl

/-- A resynchronising receiver loses what arrives (R10). -/
theorem recordBytesIn_resyncing (bytes : List Byte) (hr : s.port.rx = .resyncing) : recordBytesIn bytes s = s := by
  unfold recordBytesIn
  induction bytes with
  | nil => rfl
  | cons b bs ih => simp [recordByte, hr, ih]

/-! ### Frames and commands -/

theorem route_heard {addr : Byte} (h : Heard s addr) : route s addr = .reply := by
  obtain ⟨-, -, h1, h2, h3⟩ := h
  unfold route
  rw [if_neg (by omega), if_neg (by rintro rfl; simp at h2), if_pos h1]

/-- A command that is heard acts and is answered in its own event (R168, R170). -/
theorem hostCommand_heard {addr : Byte} (kind : Byte) {payload : List Byte} (replyOnly : Bool)
    (cmd : State → State × Answer) (h : Heard s addr) (hl : payload.length ≤ 200) :
    hostCommand addr kind payload replyOnly cmd s = .next (giveReply kind (cmd s).2 (cmd s).1) := by
  obtain ⟨⟨h0, h1, h2⟩, -⟩ := id h
  simp [hostCommand, live_awake s h0, receiveFrame, h1, h2, hl, Config.maxPayload, answer, route_heard s h]

/-- The control link loses what arrives while a reply is pending or being sent, and while it resynchronises (R166). -/
theorem frameBytesIn_lost (bytes : List Byte) (h : s.link.tx ≠ .idle ∨ s.link.rx = .resyncing) :
    frameBytesIn bytes s = s := by
  have hb : ∀ b, frameByte s b = s := by
    intro b
    unfold frameByte
    split <;> simp_all
  unfold frameBytesIn
  induction bytes with
  | nil => rfl
  | cons b bs ih => rw [List.foldl_cons, hb, ih]

theorem clampNat_eq {lo hi : Nat} (h : lo ≤ hi) (n : Nat) : clampNat lo hi n = max lo (min hi n) := by
  unfold clampNat
  split
  · omega
  · split <;> omega

theorem clampInt_eq {lo hi : Int} (h : lo ≤ hi) (n : Int) : clampInt lo hi n = max lo (min hi n) := by
  unfold clampInt
  split
  · omega
  · split <;> omega

/-- The SET of a numeric setting, answered (R171). -/
theorem giveReply_setNumeric {id chute : Byte} {allowed : State → Bool} {lo hi : Nat} {store : Nat → State → State}
    (v : Nat) (h : lo ≤ hi) :
    giveReply 0x12 (setNumeric id chute allowed lo hi store v s).2 (setNumeric id chute allowed lo hi store v s).1 =
      if allowed s = true then settingReply id chute lo hi v (store (max lo (min hi v)) s)
      else replied 0x12 .notNow [] s := by
  unfold setNumeric
  split
  · have : (max lo (min hi v) != v) = !decide (lo ≤ v ∧ v ≤ hi) := by
      by_cases hv : lo ≤ v ∧ v ≤ hi
      · simp [hv]
      · simp only [hv, decide_false, Bool.not_false, bne_iff_ne, ne_eq]
        omega
    simp only [clampNat_eq h, giveReply, settingReply, replied, closeWindow, settingReport, clampedIf, this]
    by_cases hv : lo ≤ v ∧ v ≤ hi <;> simp [hv]
  · rfl

end Sys2Proof.Machine
end

