-- ==== Sys2Proof/Laws/Queues.lean ====
section
/-! SUPPORT. What the searches and updates of the queues, the bus arbiter and the air arbiter find: one lemma each. -/

namespace Sys2Proof.Machine

/-! ### Mill-clock order -/

theorem before_irrefl (a : Time) : before a a = false := by simp [before]

theorem before_asymm {a b : Time} (h : before a b = true) : before b a = false := by
  simp only [before, Bool.and_eq_true, decide_eq_true_eq, Bool.and_eq_false_iff, decide_eq_false_iff_not] at h ⊢
  bv_omega

/-! ### Entries of a queue -/

theorem find_entry {q earlier later : List Entry} {x : Entry} {p : Entry → Bool} (hq : q = earlier ++ x :: later)
    (hn : ∀ y ∈ earlier, p y = false) (hx : p x = true) : q.find? p = some x := by
  subst hq
  rw [List.find?_append, List.find?_eq_none.2 (by simpa using hn)]
  simp [hx]

/-- In a queue whose entries have identities of their own, no other entry has this one's. -/
theorem ident_ne {earlier later : List Entry} {x : Entry} (h : ((earlier ++ x :: later).map (·.ident)).Nodup) :
    (∀ y ∈ earlier, y.ident ≠ x.ident) ∧ ∀ y ∈ later, y.ident ≠ x.ident := by
  simp only [List.map_append, List.map_cons, List.nodup_append, List.nodup_cons] at h
  exact ⟨fun y hy he => h.2.2 y.ident (List.mem_map_of_mem hy) x.ident (by simp) he,
    fun y hy he => h.2.1.1 (he ▸ List.mem_map_of_mem hy)⟩

/-- Updating an entry by its identity changes that entry alone. -/
theorem map_ident {earlier later : List Entry} {x : Entry} (f : Entry → Entry)
    (h : ((earlier ++ x :: later).map (·.ident)).Nodup) :
    ((earlier ++ x :: later).map fun y => if y.ident = x.ident then f y else y) = earlier ++ f x :: later := by
  obtain ⟨h1, h2⟩ := ident_ne h
  simp only [List.map_append, List.map_cons, if_pos]
  congr 1
  · exact (List.map_congr_left fun y hy => if_neg (h1 y hy)).trans (List.map_id _)
  · congr 1
    exact (List.map_congr_left fun y hy => if_neg (h2 y hy)).trans (List.map_id _)

/-- Removing an entry by its identity removes that entry alone. -/
theorem filter_ident {earlier later : List Entry} {x : Entry} (h : ((earlier ++ x :: later).map (·.ident)).Nodup) :
    ((earlier ++ x :: later).filter fun y => y.ident != x.ident) = earlier ++ later := by
  obtain ⟨h1, h2⟩ := ident_ne h
  rw [List.filter_append, List.filter_cons_of_neg (by simp), List.filter_eq_self.2 (by simpa using h1),
    List.filter_eq_self.2 (by simpa using h2)]

/-- Where an entry is inserted: after the entries that do not start after it, before the first that does (R67). -/
theorem insertEntry_split (x : Entry) (q : List Entry) : ∃ earlier later, q = earlier ++ later ∧
    (∀ y ∈ earlier, before x.start y.start = false) ∧ (∀ y ∈ later.head?, before x.start y.start = true) ∧
    insertEntry x q = earlier ++ x :: later := by
  induction q with
  | nil => exact ⟨[], [], rfl, by simp, by simp, rfl⟩
  | cons y q ih =>
    by_cases h : before x.start y.start = true
    · exact ⟨[], y :: q, rfl, by simp, by simpa using h, by simp [insertEntry, h]⟩
    · obtain ⟨e, l, h1, h2, h3, h4⟩ := ih
      refine ⟨y :: e, l, by simp [h1], ?_, h3, by simp [insertEntry, h, h4]⟩
      simpa [h] using h2

/-! ### The arbiters' choices -/

/-- A fold that keeps the better of two stays with one that no later member beats. -/
theorem foldl_stays {α : Type} {better : α → α → Bool} {r : α} {later : List α} (h : ∀ x ∈ later, better x r = false) :
    later.foldl (fun b x => if better x b then x else b) r = r := by
  induction later with
  | nil => rfl
  | cons c l ih =>
    rw [List.foldl_cons, h c (by simp)]
    simpa using ih fun x hx => h x (by simp [hx])

/-- A fold that keeps the better of two comes to the one that beats every earlier member and that no later one beats. -/
theorem foldl_reaches {α : Type} {better : α → α → Bool} {r : α} {later : List α} (earlier : List α) (b : α)
    (hb : better r b = true) (h1 : ∀ x ∈ earlier, better r x = true) (h2 : ∀ x ∈ later, better x r = false) :
    (earlier ++ r :: later).foldl (fun b x => if better x b then x else b) b = r := by
  induction earlier generalizing b with
  | nil => simpa [hb] using foldl_stays h2
  | cons c a ih =>
    rw [List.cons_append, List.foldl_cons]
    refine ih _ ?_ fun x hx => h1 x (by simp [hx])
    split
    · exact h1 c (by simp)
    · exact hb

theorem grantBefore_iff (a b : Request) : grantBefore a b = true ↔ GoesBefore a b := by
  simp [grantBefore, GoesBefore]

/-- The first of a list of requests (R115). -/
theorem firstRequest_eq {earlier later : List Request} {r : Request} (h1 : ∀ x ∈ earlier, GoesBefore r x)
    (h2 : ∀ x ∈ later, ¬GoesBefore x r) : firstRequest (earlier ++ r :: later) = some r := by
  have h1' : ∀ x ∈ earlier, grantBefore r x = true := fun x hx => (grantBefore_iff r x).2 (h1 x hx)
  have h2' : ∀ x ∈ later, grantBefore x r = false := fun x hx =>
    Bool.eq_false_iff.2 (mt (grantBefore_iff x r).1 (h2 x hx))
  cases earlier with
  | nil => exact congrArg some (foldl_stays h2')
  | cons c a => exact congrArg some (foldl_reaches a c (h1' c (by simp)) (fun x hx => h1' x (by simp [hx])) h2')

/-- The request that the arbiter takes, and what is left of the waiting requests (R115). -/
theorem nextRequest_eq {b : BusController} {earlier later : List Request} {r : Request}
    (hb : b.requests = earlier ++ r :: later) (h1 : ∀ x ∈ earlier, x.isOpen = r.isOpen → GoesBefore r x)
    (h2 : ∀ x ∈ later, x.isOpen = r.isOpen → ¬GoesBefore x r)
    (h : r.isOpen = false ∨ ∀ x ∈ b.requests, x.isOpen = true) :
    nextRequest b = some r ∧ b.requests.erase r = earlier ++ later := by
  refine ⟨?_, ?_⟩
  · unfold nextRequest
    rcases h with h | h
    · have hf : b.requests.filter (fun r => !r.isOpen)
          = earlier.filter (fun r => !r.isOpen) ++ r :: later.filter fun r => !r.isOpen := by
        rw [hb, List.filter_append, List.filter_cons_of_pos (by simp [h])]
      rw [hf, firstRequest_eq]
      · intro x hx
        simp only [List.mem_filter, Bool.not_eq_true'] at hx
        exact h1 x hx.1 (by rw [hx.2, h])
      · intro x hx
        simp only [List.mem_filter, Bool.not_eq_true'] at hx
        exact h2 x hx.1 (by rw [hx.2, h])
    · have hf : b.requests.filter (fun r => !r.isOpen) = [] := by
        simpa [List.filter_eq_nil_iff] using h
      have hr := h r (by simp [hb])
      rw [hf, hb]
      exact firstRequest_eq (fun x hx => h1 x hx (by rw [hr, h x (by simp [hb, hx])]))
        fun x hx => h2 x hx (by rw [hr, h x (by simp [hb, hx])])
  · have hm : r ∉ earlier := fun hr => by
      have := h1 r hr rfl
      simp [GoesBefore, before_irrefl] at this
    rw [hb, List.erase_append_right _ hm]
    simp

/-- The victim is the holder that the arbiter cuts rather than any other (R98). -/
theorem victim_eq {l : List (Nat × Entry)} {v : Nat × Entry} (hm : v ∈ l)
    (h1 : ∀ w ∈ l, w ≠ v → cutBefore v w = true) (h2 : ∀ w ∈ l, cutBefore w v = false) : victim l = some v := by
  obtain ⟨a, b, rfl, ha⟩ := List.eq_append_cons_of_mem hm
  have h1' : ∀ w ∈ a, cutBefore v w = true := fun w hw => h1 w (by simp [hw]) fun he => ha (he ▸ hw)
  have h2' : ∀ w ∈ b, cutBefore w v = false := fun w hw => h2 w (by simp [hw])
  cases a with
  | nil => exact congrArg some (foldl_stays h2')
  | cons c a => exact congrArg some (foldl_reaches a c (h1' c (by simp)) (fun x hx => h1' x (by simp [hx])) h2')

end Sys2Proof.Machine
end

