-- ==== Sys2Proof/Tests/Slice0.lean ====
section
/-! SUPPORT. The model's own tests: ill-formed terms, the worked figures of the manual, and for each obligation a state
and operands that meet its hypotheses. Check values of the cyclic checks were computed by hand outside the model. -/

-- One kernel evaluation at a time: side by side they take more threads, and memory, than the check allows.
set_option Elab.async false

namespace Sys2Proof.Tests

open Sys2Proof Sys2Proof.Machine

/-! ### Helpers -/

/-- The state after a command. -/
def after (i : Instr) (s : State) : State :=
  match exec i s with
  | .next t => t
  | .fault _ => s
  | .refused _ => s

/-- A part in an operating state, its cold flag clear. -/
def inState (op : OpState) : State := { State.reset with ctl := { State.reset.ctl with op := op, cold := false } }

/-- A part in RUN. -/
def running : State := inState .run

/-- The mill clock set. -/
def atTime (t : Time) (s : State) : State := { s with clk := { s.clk with now := t } }

/-- A part held in reset. -/
def held : State := { State.reset with ctl := { State.reset.ctl with rstn := true } }

/-- A nozzle in service. -/
def serving (g : Nat) (s : State) : State := s.setNozzle g { NozzleRecord.cold with state := .inService }

/-- A queue filled. -/
def queued (g : Nat) (q : List Entry) (s : State) : State :=
  { s.setQueue g q with firing := { (s.setQueue g q).firing with nextIdent := 100 } }

/-- A planning record in the planner. -/
def planning (r : PlanRecord) (s : State) : State := { s with planner := some r }

/-- A transaction in flight on a chute's bus, nothing else there. -/
def carrying (h : Chute) (t : Transaction) (s : State) : State := s.setBus h ⟨.a, 1, false, [], some t⟩

/-- A sighting of chute 2, class 5, and its record: columns 700 and 20, size 0, as corrected at decode (R12). -/
def kernel : Sighting := ⟨2, .rear, 0x5A, 0xFFFE, 20, 639, 5, 1, 200⟩
def kernelRecord : List Byte := [83, 165, 90, 255, 254, 175, 1, 64, 0, 0, 200, 132]

/-- A verdict CONFIRM for chute 1, tag 9. -/
def confirmRecord : List Byte := [86, 64, 9, 1, 0, 0, 0, 0, 0, 0, 0, 78]

/-- A held entry of chute 1, tag 9, with deadline 500. -/
def keeper : HeldEntry := ⟨1, 9, 3, 5, .pass, [⟨53, 800, 1800⟩], 500⟩

/-- An entry from 1000 to 3000 in a phase, with its firing record. -/
def entry (phase : Phase) (firing : Option FiringRecord) : Entry := ⟨7, 1000, 3000, 5, .sighting, phase, firing⟩

/-- A planning record of `kernel` at a step, its bank fixed. -/
def recordAt (step : PlanStep) : PlanRecord := { PlanRecord.start kernel with next := step, bank := some .x }

/-- A transaction of nozzle 53 of chute 1 and of the entry above, sent on lane A with tag 0. -/
def sending (kind : BusKind) (waitEnd : Option Time) (retry : Bool) : Transaction :=
  ⟨kind, 53, 7, .a, 0, retry, waitEnd, false⟩

/-- A good reply with tag 0, DONE and latency 300. -/
def doneReply : List Byte := [1, 1, 44, 145]
/-- A good reply with tag 0, COIL FAULT. -/
def faultReply : List Byte := [2, 0, 0, 253]

/-- Chute 1's bus with nothing in flight and the requests given. -/
def idleBus (l : List Request) (s : State) : State := s.setBus 1 ⟨.a, 0, false, l, none⟩

/-- A planner at the confidence step: one nozzle, 93, with command time 800, and a threshold one above the sighting's. -/
def doubtful : State :=
  { planning { recordAt .confidence with nozzles := [⟨13, 700, 900, 800, 1800, false⟩] } running with
    banks := { running.banks with x := { running.banks.x with cls := [(5, ⟨0, 3, 201, .pass⟩)] } } }

/-- A wind-down under way. -/
def windingDown (s : State) : State :=
  { s with ctl := { s.ctl with op := .windDown, windDown := some ⟨.draining, 1000⟩ } }

/-- A part at work: in RUN, a sighting in the intake, an entry of nozzle 53 that starts now. -/
def busy : State :=
  let s := queued 53 [entry .waiting none] (serving 53 (atTime 1000 running))
  { s with
    pending := [.entryStart 53]
    port := { s.port with intake := [kernel] }
    tally := { s.tally with sightings := [(37, { SightingTally.zero with seen := 1 })] } }

/-- `busy` with nothing commanded. -/
def left : State := { busy with pending := [] }

/-! ### Well-formedness -/

theorem test_refuses_records_of_no_or_too_many_bytes :
    (Instr.sightingRecord []).wellFormed = false ∧ (Instr.verdictRecord (List.replicate 13 0)).wellFormed = false ∧
      (Instr.partialRecordTimeout (List.replicate 12 0)).wellFormed = false := by decide
theorem test_refuses_nozzles_above_159 :
    (Instr.entryStart 160).wellFormed = false ∧ (Instr.entryEnd 160).wellFormed = false := by decide
theorem test_refuses_valve_replies_of_other_lengths : (Instr.valveReply 0 .a [0, 0, 0]).wellFormed = false := by decide
theorem test_refuses_long_frames :
    (Instr.poll 1 (List.replicate 201 0)).wellFormed = false ∧
      (Instr.setAirTrim 1 (List.replicate 200 0)).wellFormed = false ∧
      (Instr.controlError (List.replicate 207 0)).wellFormed = false := by decide +kernel

/-! ### Figures of the manual -/

/-- The check values of the nine ASCII digits, computed outside the model from the table of R187. -/
theorem test_cyclic_checks :
    crc8 [0x31, 0x32, 0x33, 0x34, 0x35, 0x36, 0x37, 0x38, 0x39] = 0xFB ∧
      crc16 [0x31, 0x32, 0x33, 0x34, 0x35, 0x36, 0x37, 0x38, 0x39] = 0x29B1 := by decide +kernel
/-- R12: columns above 639 become 639 and are exchanged when they descend; a size of 0 becomes 1. -/
theorem test_decode_corrects_a_sighting : decodeRecord kernelRecord = .sighting kernel := by decide +kernel
theorem test_decode_reads_a_verdict : decodeRecord confirmRecord = .verdict 1 9 true := by decide +kernel
/-- The six lines of the learning table of R127. -/
theorem test_learning_table :
    [learn 640 668, learn 600 560, learn 640 652, learn 641 644, learn 648 644, learn 800 4095]
      = [644, 595, 642, 641, 648, 1212] := by decide +kernel
/-- 03, "Rounding of the width". -/
theorem test_width_table :
    [trimWidth 63 400 6000 1000, trimWidth 0 400 6000 1001, trimWidth 0 400 6000 300, trimWidth 127 400 6000 5000]
      = [992, 501, 400, 6000] := by decide +kernel
/-- 03, "The flight at its lower limit", both limits. -/
theorem test_flight_limits : flightTime 2000 (-512) (-2000) = 0 ∧ flightTime 60000 511 2000 = 69485 := by decide +kernel
/-- R47: the least and the greatest size of some bands. -/
theorem test_size_bands : [1, 3, 4, 7, 8, 255, 256, 4095].map sizeBand = [0, 0, 1, 1, 2, 6, 7, 7] := by decide +kernel
/-- 03, "A clump across five nozzles". -/
theorem test_clump_is_clipped :
    clipSet [(6, 8), (7, 16), (8, 16), (9, 16), (10, 8)] = [(6, 8), (7, 16), (8, 16), (9, 16)] := by decide +kernel
/-- 03, "Outcomes of placement". -/
theorem test_placement_outcomes :
    [[.created, .crowded], [.merged, .crowded, .late], [.crowded, .blind], [.late, .blind], [.blind, .blind]].map
      placementOutcome = [.planned, .merged, .crowded, .untimely, .blind] := by decide
/-- 04, "Three sightings on one nozzle": created, merged into the first entry, crowded. -/
theorem test_three_sightings_on_one_nozzle :
    let s := queued 53 [⟨1, 1019567, 1021592, 5, .sighting, .waiting, none⟩] (serving 53 running)
    let r1 := offer 53 1024000 1025800 3 .sighting s
    let r2 := offer 53 1021900 1023500 6 .sighting r1.1
    let r3 := offer 53 1026500 1032000 4 .sighting r2.1
    r1.2 = .created 100 ∧ r2.2 = .merged 1 ∧ r3.2 = .crowded ∧
      r3.1.queue 53 = [⟨1, 1019567, 1025800, 6, .sighting, .waiting, none⟩] := by decide +kernel
/-- The POLL frame to address 1, its check computed outside the model. -/
theorem test_poll_frame_bytes : frameBytesIn [165, 1, 1, 0, 200, 157] State.reset = after (.poll 1 []) State.reset := by
  decide +kernel
/-- R31: a line already begun, or more than 32,768 lines ahead, is taken as the next line. -/
theorem test_resolved_lines :
    [resolveLine 10 10, resolveLine 10 11, resolveLine 10 32778, resolveLine 10 32779, resolveLine 0xFFFF 0]
      = [11, 11, 32778, 11, 0] := by decide +kernel
/-- R6, R114: right after reset the mark pulse of line 0 is in progress and each bus sends its CLOSE ALL; nothing is due. -/
theorem test_nothing_is_due_at_reset :
    dueEvents State.reset = [] ∧ ∀ h : Chute, ((State.reset.busOf h).inFlight.map (·.kind)) = some .closeAll := by
  decide +kernel
/-- R6: a pulse in progress is cut short, LSYNC is low for 4 µs, and then the mark pulse lasts its 20 µs. -/
theorem test_warm_reset_cuts_the_pulse :
    let s := after .warmReset { inState .halt with ctl := { (inState .halt).ctl with resetDue := true } }
    [0, 3, 4, 23].map (fun t => (atTime t s).clk.lsyncHigh) = [false, false, true, true] ∧
      (after .lsyncPulseEnd (atTime 24 s)).clk.lsyncHigh = false := by decide +kernel
/-- R158, R159: with nothing to finish, a wind-down ends in the event of its RESTART. -/
theorem test_restart_with_nothing_to_finish :
    let s := after (.restart 1 []) (atTime 70 State.reset)
    s.ctl.op = .standby ∧ s.clk.now = 0 ∧ (s.notices.record .restarted).pending = true ∧
      s.link.tx = .turnaround ⟨0x07, .done, []⟩ 0 := by decide +kernel
/-- R114, R115: an OPEN handed to an idle controller is sent in the event of the start. -/
theorem test_start_is_granted_at_once :
    ((after (.entryStart 53) (idleBus [] busy)).busOf 1).inFlight.map (fun t => (t.kind, t.nozzle)) = some (.opn, 53) ∧
      ((after (.entryStart 53) (idleBus [] busy)).busOf 1).requests = [] := by decide +kernel
/-- R44: nozzle 80 leaves service after column 20 is looked up and before columns 21 and 22 are; or it stays. -/
theorem test_columns_see_the_states_of_their_time :
    let s := serving 80 (planning { recordAt .nozzleSet with c0 := 20, c1 := 22, column := 20 } running)
    let twoMore := fun s : State => (after .nozzleSetStep (after .nozzleSetStep s)).planner.map (·.nozzles)
    twoMore ((after .nozzleSetStep s).setNozzle 80 .cold) = some [⟨0, 1, 0, 0, 0, false⟩] ∧
      twoMore (after .nozzleSetStep s) = some [⟨0, 3, 0, 0, 0, false⟩] := by decide +kernel
/-- R95: the effective cap is halved while AIRLOW is asserted, and at least 1. -/
theorem test_air_caps :
    [1, 2, 3, 40].map (fun n => airNow { State.reset with
        banks := { State.reset.banks with
          x := { State.reset.banks.x with chute := [(0, { ChuteEntry.zero with airCap := n })] } }
        ctl := { State.reset.ctl with airlow := true } } 0) = [1, 1, 1, 20] := by decide +kernel

/-- R154, R155: a purge's entry enters the set at its turn, and the purge waits until it has left its queue. -/
theorem test_purge_waits_for_its_entries :
    let p : Purge := ⟨1000, 1000, 40, 39, 0, false, []⟩
    let s := serving 79 { inState .purge with ctl := { (inState .purge).ctl with purge := some p } }
    let t := after .purgeComplete (after .purgeTurn s)
    t.ctl.op = .purge ∧ t.ctl.purge.map (fun q => (q.ended, q.set)) = some (true, [(79, 0)]) ∧
      (after .purgeComplete { t with firing := State.reset.firing }).ctl.op = .standby := by decide +kernel

/-! ### Witnesses: the step, the line clock, the sighting port -/

theorem witness_StepTakesTheFrontCommand : busy.pending = [.entryStart 53] := by decide +kernel
theorem witness_NothingReachesAPartInReset :
    held.ctl.rstn = true ∧ Instr.lsyncPulse ≠ .rstnLow ∧ State.reset.ctl.rstn = false ∧ held.pending = [] ∧
      State.reset.pending = [] ∧ dueEvents State.reset = [] ∧ left.pending = [] ∧
      dueEvents left = [.lsyncPulseEnd, .lsyncPulse, .entryStart 53, .plannerTake] := by decide +kernel
theorem witness_PulseBeginsTheNextLine :
    let s := atTime 125 State.reset
    Awake s ∧ due s.clk.nextPulse s.clk.now = true ∧ s.clk.pendingRestart = false ∧ s.banks.pendingSwap = none ∧
      s.banks.lastSwap = none ∧ due s.clk.nextPulse State.reset.clk.now = false ∧
      s.clk.lsync = .high 20 ∧ due 20 s.clk.now = true ∧ due 20 State.reset.clk.now = false ∧
      { s.clk with lsync := .low }.lsync = .low ∧ { s.clk with lsync := .cut 4 24 }.lsync = .cut 4 24 ∧
      due 4 (3 : Time) = false ∧ due 4 (4 : Time) = true ∧ due 24 (23 : Time) = false := by decide +kernel
theorem witness_SwapSettleAndRestartAtAPulse :
    let s := atTime 125 State.reset
    Awake s ∧ due s.clk.nextPulse s.clk.now = true ∧
      (let swapping := { s with banks := { s.banks with pendingSwap := some 1 } }
       swapping.clk.pendingRestart = false ∧ swapping.banks.pendingSwap = some (swapping.clk.line + 1)) ∧
      (let settling := { s with banks := { s.banks with lastSwap := some 0xFF00 } }
       settling.banks.pendingSwap ≠ some (settling.clk.line + 1) ∧
         settling.settings.maxAge < (settling.clk.line + 1 - 0xFF00).toNat) ∧
      { s.clk with pendingRestart := true }.pendingRestart = true := by decide +kernel
theorem witness_SightingIsAdmittedDroppedOrRefused :
    Awake running ∧ running.port.rx = .collecting [] ∧ decodeRecord kernelRecord = .sighting kernel := by decide +kernel
theorem witness_VerdictSettlesItsEntry :
    let s := { running with verdicts := ⟨[keeper], running.verdicts.rings.set 1 [9, 4]⟩ }
    Awake s ∧ s.port.rx = .collecting [] ∧ decodeRecord confirmRecord = .verdict 1 9 true ∧ s.ctl.op = .run ∧
      s.verdicts.held = [] ++ keeper :: [] ∧ keeper.chute = 1 ∧ keeper.tag = 9 ∧
      s.verdicts.rings.get 1 = [] ++ 9 :: [4] ∧ (9 : Byte) ∉ ([4] : List Byte) ∧
      (∀ x ∈ running.verdicts.held, ¬(x.chute = 1 ∧ x.tag = 9)) ∧ (9 : Byte) ∉ running.verdicts.rings.get 1 ∧
      State.reset.ctl.op ≠ .run ∧ State.reset.ctl.op ≠ .windDown := by decide +kernel
theorem witness_RejectedRecordsAreLinkErrors :
    Awake running ∧ running.port.rx = .collecting [] ∧ (List.replicate 12 (0 : Byte)).length = 12 ∧
      decodeRecord (List.replicate 12 0) = .bad ∧ decodeRecord [86, 64, 9, 3, 0, 0, 0, 0, 0, 0, 0, 104] = .badCode ∧
      { running.port with rx := .resyncing }.rx = .resyncing ∧ running.port.rx ≠ .resyncing := by decide +kernel

/-! ### Witnesses: the planner and the held list -/

theorem witness_PlannerTakesTheOldestAndAgesIt :
    Awake busy ∧ busy.planner = none ∧ busy.port.intake = kernel :: [] ∧
      (planning (recordAt .age) running).planner = some (recordAt .age) ∧ (recordAt .age).next = .age ∧
      (planning (recordAt .age) running).planner ≠ none ∧ running.port.intake = [] ∧ (recordAt .age).next ≠ .bank ∧
      (∀ r, running.planner ≠ some r) := by
  refine ⟨by decide +kernel, by decide +kernel, by decide +kernel, by decide +kernel, by decide +kernel, by decide +kernel,
    by decide +kernel, by decide +kernel, nofun⟩
theorem witness_BankAndBandAreFixed :
    Awake running ∧ (recordAt .bank).next = .bank ∧ (recordAt .band).next = .band ∧ (recordAt .band).bank = some .x := by
  decide +kernel
/-- Columns 20 to 22: the first, two in a row, and the last; with no nozzle in service none serves, with nozzle 80 in service
it serves them in the cold map. -/
theorem witness_NozzleSetKeepsTheFourGreatest :
    let r : PlanRecord := { recordAt .nozzleSet with c0 := 20, c1 := 22, column := 20 }
    let last := { r with column := 22 }
    let found := fun s : State => (List.range' last.column 1).filterMap (effectiveNozzle s (s.banks.data .x) 2)
    Awake running ∧ (planning r running).planner = some r ∧ r.next = .nozzleSet ∧ r.bank = some .x ∧
      r.column < r.c1 ∧ r.column + 2 ≤ r.c1 ∧ last.column = last.c1 ∧ found running = [] ∧
      found (serving 80 running) = [0] := by decide +kernel
theorem witness_SizeBandAndTrimmedWidth :
    Awake running ∧ (recordAt .sizeBand).next = .sizeBand ∧ 1 ≤ kernel.size ∧ kernel.size ≤ 4095 ∧
      (recordAt .width).next = .width ∧ (recordAt .width).bank = some .x ∧
      running.settings.widthMin ≤ running.settings.widthMax := by decide +kernel
theorem witness_FlightSeenAndNozzleTimes :
    Awake running ∧ (recordAt .flight).next = .flight ∧ (recordAt .seenTime).next = .seenTime ∧
      (recordAt .times).next = .times ∧ (recordAt .times).bank = some .x := by decide +kernel
theorem witness_LeadStepDropsLateNozzles : Awake running ∧ (recordAt .lead).next = .lead := by decide +kernel
/-- The confidence equal to the threshold, and one below it; then the deadline come, one microsecond to go; a held entry of
the same tag, a full list, and one with room. -/
theorem witness_ConfidenceStepPlacesOrHandsOver :
    let r : PlanRecord := { recordAt .confidence with nozzles := [⟨13, 700, 900, 800, 1800, false⟩] }
    Awake doubtful ∧ doubtful.planner = some r ∧ r.next = .confidence ∧ r.bank = some .x ∧
      (Tab.get ClassEntry.zero (doubtful.banks.data .x).cls 5).threshold = r.sighting.conf + 1 ∧
      (Tab.get ClassEntry.zero (running.banks.data .x).cls 5).threshold ≤ r.sighting.conf ∧
      earliestCommand [⟨93, 800, 1800⟩] - BitVec.ofNat 32 doubtful.settings.leadMin = 500 ∧
      before 500 500 = false ∧ before 499 500 = true ∧
      (∃ y ∈ [{ keeper with chute := 2, tag := 0x5A }], y.chute = 2 ∧ y.tag = 0x5A) ∧
      (∀ y ∈ List.replicate 32 keeper, ¬(y.chute = 2 ∧ y.tag = 0x5A)) ∧ 32 ≤ (List.replicate 32 keeper).length ∧
      (List.replicate 31 keeper).length < 32 := by decide +kernel
/-- A nozzle out of service, and one in service whose lead is one short of LEAD MIN, and just enough. -/
theorem witness_PlacementCountsItsOutcome :
    Awake running ∧ (recordAt .placement).next = .placement ∧ (running.nozzle 53).state ≠ .inService ∧
      ((serving 53 running).nozzle 53).state = .inService ∧
      ((299 : Time) - running.clk.now).toInt < running.settings.leadMin ∧
      (running.settings.leadMin : Int) ≤ ((300 : Time) - running.clk.now).toInt := by decide +kernel
theorem witness_DeadlineSettlesTheHeldEntry :
    let s := atTime 500 { running with verdicts := { running.verdicts with held := [keeper] } }
    Awake s ∧ s.verdicts.held = [] ++ keeper :: [] ∧ due keeper.deadline s.clk.now = true ∧
      due keeper.deadline (499 : Time) = false ∧
      (∀ x ∈ s.verdicts.held, ¬(x.chute = 1 ∧ x.tag = 8)) ∧ (∀ x ∈ s.verdicts.held, ¬(x.chute = 2 ∧ x.tag = 9)) := by
  decide +kernel

/-! ### Witnesses: the queues and the dispatchers -/

/-- Touching at the last microsecond of the gap, and none touching one later; a full queue; a CLOSING touching entry; a
second touching entry that has started; a merged width of WIDTH CAP and of one more. -/
theorem witness_OfferIsAnsweredByTheTouchTest :
    let touching := fun (q : List Entry) (c e : Time) => q.filter fun y =>
      (y.start - 1000 == e || before (y.start - 1000) e) && (c == y.stop + 1000 || before c (y.stop + 1000))
    let x := entry .waiting none
    (running.nozzle 53).state ≠ .inService ∧ ((serving 53 running).nozzle 53).state = .inService ∧
      touching [x] 4000 4400 = [x] ∧ touching [x] 4001 4401 = [] ∧
      touching (List.replicate 8 x) 4001 4401 = [] ∧ 8 ≤ (List.replicate 8 x).length ∧
      (touching [entry .closing none] 4000 4400 = [entry .closing none]) ∧
      touching [x, { x with start := 5000, stop := 6000, phase := .opening }] 3500 4000
        = [x, { x with start := 5000, stop := 6000, phase := .opening }] ∧
      ((mergeEntry x [] 4000 13000 0).stop - (mergeEntry x [] 4000 13000 0).start).toNat = 12000 ∧
      ((mergeEntry x [] 4000 13001 0).stop - (mergeEntry x [] 4000 13001 0).start).toNat = 12001 := by decide +kernel
/-- An entry absorbed that is of the purge set. -/
theorem witness_OfferIsAnsweredByTheTouchTest_purge :
    let p : Purge := ⟨1000, 1000, 40, 39, 0, true, [(53, 8)]⟩
    let z : Entry := { entry .waiting none with ident := 8, start := 5000, stop := 6000, origin := .purge }
    let s := queued 53 [entry .waiting none, z]
      (serving 53 { inState .purge with ctl := { (inState .purge).ctl with purge := some p } })
    s.ctl.purge = some p ∧ (53, z.ident) ∈ p.set ∧ z.phase = .waiting ∧
      (offer 53 3500 4000 0 .purge s).1.ctl.purge.map (·.set) = some [(53, 7)] := by decide +kernel
theorem witness_OfferKeepsTheQueueOrdered :
    let x : Entry := { entry .waiting none with start := 6000, stop := 8000 }
    let s := queued 53 [x] (serving 53 running)
    s.settings.valveGap.get (chuteOf 53) ≤ 5000 ∧ (s.queue 53).length ≤ 8 ∧ ((s.queue 53).map (·.ident)).Nodup ∧
      QueueOrdered 0 (s.settings.valveGap.get (chuteOf 53)) 200 s.settings.widthCap (s.queue 53) ∧
      FiringFits 0 200 s.settings.widthCap 5000 5200 ∧
      ∃ t answer, offer 53 5000 5200 1 .sighting s = (t, answer) := by
  refine ⟨by decide +kernel, by decide +kernel, by decide +kernel, ?_, ?_, _, _, rfl⟩
  · unfold QueueOrdered FiringFits
    decide +kernel
  · unfold FiringFits
    decide +kernel
theorem witness_StartBelowTheCapIsAdmitted :
    let x := entry .waiting none
    Awake busy ∧ busy.queue 53 = [] ++ x :: [] ∧ ((busy.queue 53).map (·.ident)).Nodup ∧ x.phase = .waiting ∧
      due x.start busy.clk.now = true ∧ busy.openCount (chuteOf 53) < airNow busy (chuteOf 53) ∧
      (∀ e ∈ busy.queue 54, ¬(e.phase = .waiting ∧ due e.start busy.clk.now = true)) ∧
      (∀ e ∈ (atTime 999 busy).queue 53, ¬(e.phase = .waiting ∧ due e.start (atTime 999 busy).clk.now = true)) ∧
      (∀ e ∈ (queued 53 [entry .opening none] busy).queue 53, ¬(e.phase = .waiting ∧ due e.start busy.clk.now = true)) := by
  decide +kernel
/-- The open count above the cap; at the cap, with a holder of lower and of equal priority. -/
theorem witness_StartAtTheCapCutsOrStarves :
    let x := entry .waiting none
    let v : Entry := { entry .opened (some ⟨.wet, .complete, .none⟩) with ident := 8, prio := 4 }
    let s := (queued 54 [v] busy).setOpenCount 1 1
    let s' := (queued 54 [{ v with prio := 5 }] busy).setOpenCount 1 1
    Awake s ∧ s.queue 53 = [] ++ x :: [] ∧ ((s.queue 53).map (·.ident)).Nodup ∧ x.phase = .waiting ∧
      due x.start s.clk.now = true ∧ airNow (s.setOpenCount 1 2) 1 < (s.setOpenCount 1 2).openCount 1 ∧
      s.openCount 1 = airNow s 1 ∧ holders s 1 = [(54, v)] ∧ v.prio < x.prio ∧ v.kind = .wet ∧
      { v with firing := some ⟨.dry, .none, .none⟩ }.kind = .dry ∧
      holders s' 1 = [(54, { v with prio := 5 })] ∧ x.prio ≤ 5 := by decide +kernel
theorem witness_EndClosesAndDryFlagFollows :
    let wet := entry .opened (some ⟨.wet, .complete, .none⟩)
    let dry := entry .opened (some ⟨.dry, .none, .none⟩)
    let s := queued 53 [wet] (atTime 3000 running)
    let going := { s with ctl := { s.ctl with goingDry := true } }
    Awake s ∧ s.queue 53 = [] ++ wet :: [] ∧ wet.phase = .opened ∧ due wet.stop s.clk.now = true ∧
      (∀ e ∈ (queued 53 [entry .opening (some ⟨.wet, .inFlight, .none⟩)] s).queue 53,
        ¬(e.phase = .opened ∧ due e.stop s.clk.now = true)) ∧
      (queued 53 [dry] s).queue 53 = [] ++ dry :: [] ∧ going.ctl.goingDry = true ∧
      (∃ p ∈ going.firing.queues, ∃ e ∈ p.2, ∃ f ∈ e.firing, f.kind = .wet) ∧
      (∀ p ∈ (queued 53 [dry] going).firing.queues, ∀ e ∈ p.2, ∀ f ∈ e.firing, f.kind ≠ .wet) ∧
      s.ctl.goingDry = false ∧ s.ctl.purge = none ∧ s.ctl.op ≠ .windDown ∧
      (windingDown s).ctl.op = .windDown ∧ ¬NothingLeft (windingDown s) := by
  unfold NothingLeft
  decide +kernel

/-! ### Witnesses: the valve bus -/

/-- A CLOSE ALL; a CLOSE before an OPEN; the first of two OPENs, its grant at its last moment and one microsecond late. -/
theorem witness_GrantTakesCloseAllThenCloseThenOpen :
    let e := entry .opening (some ⟨.wet, .waiting, .none⟩)
    let o : Request := ⟨true, 53, 7, 1000⟩
    let o' : Request := ⟨true, 54, 8, 1000⟩
    let c : Request := ⟨false, 60, 9, 1000⟩
    let s := queued 53 [e] running
    (State.reset.busOf 1).inFlight ≠ none ∧ ((idleBus [] s).busOf 1).closeAll = false ∧
      ((s.setBus 1 ⟨.a, 0, true, [o], none⟩).busOf 1).closeAll = true ∧
      (∀ e ∈ running.queue o.nozzle, e.ident ≠ o.ident) ∧ (entry .closing none).phase ≠ .opening ∧
      (s.setBus 1 ⟨.a, 0, false, [o, c], none⟩).busOf 1 = ⟨.a, 0, false, [o] ++ c :: [], none⟩ ∧ o.isOpen ≠ c.isOpen ∧
      (s.setBus 1 ⟨.a, 0, false, [o', o], none⟩).busOf 1 = ⟨.a, 0, false, [o'] ++ o :: [], none⟩ ∧ GoesBefore o o' ∧
      (s.queue 53).find? (fun e => e.ident == o.ident) = some e ∧ e.phase = .opening ∧
      before (2599 : Time) (e.stop - BitVec.ofNat 32 s.settings.widthMin) = true ∧
      atOrBefore (e.stop - BitVec.ofNat 32 s.settings.widthMin) 2600 = true ∧ chuteOf 53 = 1 := by decide +kernel
theorem witness_SendsWaitRetryAndIgnore :
    let s := carrying 1 (sending .opn none false) running
    let w := carrying 1 (sending .opn (some 40) false) running
    Awake s ∧ (s.busOf 1).inFlight = some (sending .opn none false) ∧ (sending .opn none false).waitEnd = none ∧
      (w.busOf 1).inFlight = some (sending .opn (some 40) false) ∧ due 40 40 = true ∧ due 40 39 = false ∧
      before 40 41 = true ∧ ((idleBus [] running).busOf 1).inFlight = none ∧
      decodeValveReply [3, 0, 0, 150] = none ∧ Lane.b ≠ (sending .opn none false).lane ∧
      (∃ r ∈ decodeValveReply doneReply, r.tag ≠ 1) ∧ (145 : Byte) = crc8 [1, 1, 44] ∧ (253 : Byte) = crc8 [2, 0, 0] ∧
      (144 : Byte) ≠ crc8 [1, 1, 44] ∧ (3 : Byte).toNat % 16 ≠ 1 ∧ (3 : Byte).toNat % 16 ≠ 2 := by decide +kernel
/-- A DONE and a COIL FAULT that arrive as the wait ends, and the wait of a retry run out. -/
theorem witness_CompletionActsOnTheNozzleRecord :
    let s := carrying 1 (sending .opn (some 40) false) (atTime 40 running)
    let r := carrying 1 (sending .close (some 40) true) (atTime 40 running)
    Awake s ∧ (s.busOf 1).inFlight = some (sending .opn (some 40) false) ∧
      decodeValveReply doneReply = some ⟨0, true, 300⟩ ∧ decodeValveReply faultReply = some ⟨0, false, 0⟩ ∧
      before 40 s.clk.now = false ∧ (r.busOf 1).inFlight = some (sending .close (some 40) true) ∧
      due 40 r.clk.now = true := by decide +kernel
/-- DONE and COIL FAULT at the last moment of the wait, NO REPLY as it runs out, for an OPENING entry before its end, at its
end, CLOSING, and gone; and for a CLOSE. -/
theorem witness_CompletionMovesTheEntry :
    let o := sending .opn (some 2999) true
    let c := sending .close (some 2999) true
    let e := entry .opening (some ⟨.wet, .inFlight, .none⟩)
    let s := carrying 1 o (atTime 2999 running)
    Awake s ∧ (s.busOf 1).inFlight = some o ∧ o.kind ≠ .closeAll ∧ c.kind ≠ .closeAll ∧ chuteOf 53 = 1 ∧
      Completes s 1 o .done (.valveReply 1 .a doneReply) ∧ Completes s 1 o .coilFault (.valveReply 1 .a faultReply) ∧
      Completes s 1 o .noReply (.replyWaitExpiry 1) ∧ Completes s 1 c .noReply (.replyWaitExpiry 1) ∧
      (queued 53 [e] s).queue 53 = [] ++ e :: [] ∧ e.phase ≠ .waiting ∧ atOrBefore e.stop s.clk.now = false ∧
      atOrBefore e.stop (3000 : Time) = true ∧ (entry .closing (some ⟨.wet, .inFlight, .waiting⟩)).phase ≠ .opening ∧
      (entry .closing (some ⟨.wet, .complete, .inFlight⟩)).phase = .closing ∧
      (∀ e ∈ s.queue 53, e.ident ≠ o.ident) := by
  refine ⟨by decide +kernel, by decide +kernel, by decide +kernel, by decide +kernel, by decide +kernel,
    ⟨rfl, rfl, ⟨0, true, 300⟩, by decide +kernel, by decide +kernel, ?_, rfl⟩,
    ⟨rfl, rfl, ⟨0, false, 0⟩, by decide +kernel, by decide +kernel, ?_, rfl⟩,
    ⟨rfl, rfl, rfl, 2999, rfl, by decide +kernel⟩, ⟨rfl, rfl, rfl, 2999, rfl, by decide +kernel⟩,
    by decide +kernel, by decide +kernel, by decide +kernel, by decide +kernel, by decide +kernel, by decide +kernel,
    by decide +kernel⟩
  · rintro stop ⟨⟩
    decide +kernel
  · rintro stop ⟨⟩
    decide +kernel
theorem witness_CloseAllSendsOnBothLanes :
    let a := sending .closeAll (some 40) false
    let s := carrying 1 a (atTime 40 running)
    let s' := carrying 1 { a with lane := .b } (atTime 40 running)
    Awake s ∧ (s.busOf 1).inFlight = some a ∧ due 40 s.clk.now = true ∧ a.lane = .a ∧
      (s'.busOf 1).inFlight = some { a with lane := .b } ∧ decodeValveReply faultReply = some ⟨0, false, 0⟩ ∧
      decodeValveReply doneReply = some ⟨0, true, 300⟩ ∧ (0 : BitVec 4) = a.tag ∧ before 40 s.clk.now = false := by
  decide +kernel

/-! ### Witnesses: inputs, purge, wind-down and warm reset -/

theorem witness_EmergencyStopEmptiesThePart :
    Awake busy ∧ busy.ctl.estop = false ∧ busy.ctl.resetDue = false := by decide +kernel
theorem witness_LevelsFollowTheLines :
    Awake busy ∧ busy.ctl.airlow = false ∧ { busy.ctl with airlow := true }.airlow = true ∧
      { busy.ctl with estop := true }.estop = true := by decide +kernel
theorem witness_PurgeTurnsAndCompletes :
    let p : Purge := ⟨1000, 1000, 40, 39, 0, false, [(53, 7)]⟩
    let s := { inState .purge with ctl := { (inState .purge).ctl with purge := some p } }
    Awake s ∧ s.ctl.purge = some p ∧ p.ended = false ∧ due p.nextTime s.clk.now = true ∧ s.ctl.op = .purge ∧
      { p with ended := true }.ended = true ∧ (∀ x ∈ p.set, ∀ e ∈ s.queue x.1, e.ident ≠ x.2) ∧
      running.ctl.purge = none ∧ (∃ x ∈ p.set, ∃ e ∈ (queued 53 [entry .waiting none] s).queue x.1, e.ident = x.2) ∧
      due (1 : Time) s.clk.now = false ∧ (s.nozzle 53).state ≠ .inService ∧
      ((serving 53 s).nozzle 53).state = .inService ∧ (53, 7) ∈ p.set ∧ (54, 7) ∉ p.set := by decide +kernel
theorem witness_WindDownLimitReducesTheQueues :
    let w : WindDown := ⟨.draining, 1000⟩
    Awake (windingDown busy) ∧ (windingDown busy).ctl.windDown = some w ∧ w.phase = .draining ∧
      due w.expiry busy.clk.now = true ∧ due w.expiry (999 : Time) = false ∧ { w with phase := .closingOut }.phase ≠ .draining ∧
      Tab.wf [] busy.firing.queues = true ∧ running.ctl.windDown = none := by decide +kernel
theorem witness_WarmResetTakesItsValues :
    let s := windingDown running
    let owed := { inState .halt with ctl := { (inState .halt).ctl with resetDue := true } }
    Awake s ∧ s.ctl.op = .windDown ∧ NothingLeft s ∧ s.ctl.resetDue = false ∧ (windingDown busy).ctl.op = .windDown ∧
      ¬NothingLeft (windingDown busy) ∧ Listening owed ∧ owed.ctl.resetDue = true ∧ owed.ctl.estop = false ∧
      owed.link.address = 1 := by
  unfold NothingLeft
  decide +kernel

/-! ### Witnesses: the control link -/

/-- Also the witness of the statements whose only hypothesis is that a command is heard. -/
theorem witness_Heard : Heard State.reset 1 ∧ Heard running 1 ∧ Heard busy 1 ∧ Listening State.reset := by decide +kernel
theorem witness_FrameBytesAreJudgedAsTheFrame :
    Listening State.reset ∧ (List.replicate 200 (0 : Byte)).length ≤ 200 := by decide +kernel
theorem witness_BadFramesAreControlErrors :
    Awake State.reset ∧ State.reset.link.tx = .idle ∧ State.reset.link.rx = .hunting ∧
      ([200, 158] : List Byte) ≠ bytes16 (crc16 (frameBody 1 1 [])).toNat ∧ 200 < (201 : Byte).toNat ∧
      (List.replicate 201 (0 : Byte)).length < 200 + 2 ∧ { State.reset.link with rx := .resyncing }.rx = .resyncing ∧
      { State.reset.link with tx := .sending ⟨1, .done, []⟩ }.tx ≠ .idle ∧ State.reset.link.rx ≠ .resyncing := by
  decide +kernel
theorem witness_ReplyWaitsItsTurnaround :
    let s := { State.reset with link := { State.reset.link with tx := .turnaround ⟨1, .done, []⟩ 0 } }
    let t := { State.reset with link := { State.reset.link with tx := .sending ⟨1, .done, []⟩ } }
    Awake s ∧ 20 ≤ ((20 : Time) - 0).toNat ∧ ((19 : Time) - 0).toNat < 20 ∧ s.link.tx = .turnaround ⟨1, .done, []⟩ 0 ∧
      t.link.tx = .sending ⟨1, .done, []⟩ ∧ (List.replicate 199 (0 : Byte)).length ≤ 199 ∧
      (∀ reply since, State.reset.link.tx ≠ .turnaround reply since) ∧ (∀ reply, State.reset.link.tx ≠ .sending reply) := by
  exact ⟨by decide +kernel, by decide +kernel, by decide +kernel, by decide +kernel, by decide +kernel, by decide +kernel,
    nofun, nofun⟩
theorem witness_FramesAreSortedByAddress :
    let s := { State.reset with settings := { State.reset.settings with group := 62 } }
    Listening s ∧ 1 ≤ s.link.address.toNat ∧ s.link.address.toNat ≤ 32 ∧ (0x81 : Byte).msb = true ∧
      (63 : Byte) ≠ s.link.address ∧ (63 : Byte) ≠ s.settings.group ∧ (62 : Byte) = s.settings.group ∧
      (62 : Byte).toNat < 64 ∧ (0x15 : Byte).msb = false ∧ 0x15 ≤ (0x15 : Byte).toNat := by decide +kernel
theorem witness_WrongLengthsAreMalformed :
    Heard State.reset State.reset.link.address ∧ lengthFits State.reset.link.window 1 [0] = false ∧
      lengthFits State.reset.link.window 0x0F [0, 15] = false ∧ 2 ≤ (2 : Byte).toNat ∧ 3 ≤ (3 : Byte).toNat ∧
      (0 : Byte).toNat = 0 ∧ 14 ≤ (14 : Byte).toNat ∧ 4 ≤ (4 : Byte).toNat := by decide +kernel
theorem witness_RefusedChangesNothingTakenClosesTheWindow :
    Heard State.reset 1 ∧ (0x14 : Byte).msb = false ∧
      ∃ t, exec (.unknownCommand 1 0x14 []) State.reset = .next t := by
  exact ⟨by decide +kernel, by decide, _, rfl⟩
theorem witness_StateChangesAreGuarded :
    running.ctl.cold = false ∧ OneFrame .estopAssertion running ∧
      ∃ t, exec .estopAssertion running = .next t ∧ t.ctl.op ≠ running.ctl.op := by
  refine ⟨by decide +kernel, ⟨by decide, by decide +kernel, fun bytes => ⟨nofun, nofun⟩⟩, _, rfl, by decide +kernel⟩

/-! ### Witnesses: commands -/

theorem witness_GoStandbyGivesUpTheWork :
    Heard busy 1 ∧ Tab.wf [] busy.firing.queues = true ∧ busy.ctl.op = .run ∧ State.reset.ctl.op = .standby ∧
      Heard (inState .purge) 1 ∧ (inState .purge).ctl.op = .purge ∧ Heard (inState .windDown) 1 ∧
      Heard (inState .halt) 1 ∧ (inState .halt).ctl.estop = false := by decide +kernel
theorem witness_PurgeAndDryCommands :
    Heard State.reset 1 ∧ State.reset.settings.widthMin ≤ State.reset.settings.widthCap ∧
      State.reset.ctl.op = .standby ∧ State.reset.ctl.estop = false ∧ running.ctl.op ≠ .standby ∧
      (inState .halt).ctl.op = .halt ∧ running.ctl.op ≠ .windDown ∧ running.ctl.op ≠ .halt := by decide +kernel
theorem witness_WindowPutAndGet :
    let put : Window := ⟨.pulse, .x, 0, 127, .put, 127⟩
    let get : Window := ⟨.pulse, .x, 0, 127, .get, 0⟩
    Heard State.reset 1 ∧ tableOf 3 = some .pulse ∧ { State.reset.link with window := some put }.window = some put ∧
      readEntry put.table [1, 0] = some (.pulse 256, false) ∧
      readEntry put.table [0x27, 0x11] = some (.pulse 10000, true) ∧ get.dir = .get ∧
      ([1, 0] : List Byte).length = 2 ∧ State.reset.link.window = none := by decide +kernel
/-- No field, every field, a state alone; the last nozzle and the first number beyond it; a code beyond the two. -/
theorem witness_NozzleReadAndWrite :
    let every : Byte := 0xFF
    Heard State.reset 1 ∧ Heard (inState .halt) 1 ∧ Heard (inState .purge) 1 ∧
      (0xF0 : Byte).getLsbD 0 = (none : Option Byte).isSome ∧ (0xF0 : Byte).getLsbD 3 = (none : Option Byte).isSome ∧
      every.getLsbD 0 = (some (1 : Byte)).isSome ∧ every.getLsbD 1 = (some ((1 : Byte), (0 : Byte))).isSome ∧
      every.getLsbD 2 = (some ((16 : Byte), (0 : Byte))).isSome ∧ (159 : Byte).toNat < 160 ∧ 160 ≤ (160 : Byte).toNat ∧
      (2 : Byte) ≠ 0 ∧ (2 : Byte) ≠ 1 ∧ ((serving 53 running).nozzle 53).state = .inService := by decide +kernel
theorem witness_TestAndLane :
    Heard State.reset 1 ∧ State.reset.settings.widthMin ≤ State.reset.settings.widthCap ∧
      (3 : Byte).toNat = (3 : Chute).val ∧ 4 ≤ (4 : Byte).toNat ∧ 2 ≤ (2 : Byte).toNat := by decide +kernel
theorem witness_SettingsInRange : Heard State.reset 1 ∧ SettingsInRange State.reset := by
  refine ⟨by decide +kernel, ?_⟩
  unfold SettingsInRange
  decide +kernel
theorem witness_GroupMaskAndQuery :
    Heard State.reset 1 ∧ ((13 : Byte), State.reset.settings.noticeMask.toNat) ∈ [((13 : Byte), 0)] ∧
      (3 : Byte).toNat = (3 : Chute).val ∧ 14 ≤ (14 : Byte).toNat := by decide +kernel
theorem witness_TallyReadsAndClears :
    Heard State.reset 1 ∧ (1 : Byte).toNat ≤ 1 ∧ (3 : Byte).toNat = (3 : Chute).val ∧ (15 : Byte).toNat ≤ 15 ∧
      1 < (2 : Byte).toNat ∧ 18 ≤ (18 : Byte).toNat ∧ 4 ≤ (4 : Byte).toNat ∧ 15 < 16 ∧
      ¬((2 : Chute) = 3 ∧ 15 = 15) ∧ SightingCounter.seen ≠ .planned ∧ ChuteCounter.cut ≠ .starved := by decide +kernel

/-! ### Witnesses: the invariants, at a part at work that makes a step -/

theorem witness_busy_steps : ∃ t, step busy = .next t := ⟨_, rfl⟩
theorem witness_StepKeepsAttnJudged : AttnJudged busy := by
  unfold AttnJudged
  decide +kernel
theorem witness_StepKeepsTablesCanonical : TablesCanonical busy := by
  unfold TablesCanonical
  decide +kernel
theorem busy_queue (g : Nat) : busy.queue g = if 53 = g then [entry .waiting none] else [] := rfl
theorem busy_nozzle (g : Nat) :
    busy.nozzle g = if 53 = g then { NozzleRecord.cold with state := .inService } else NozzleRecord.cold := rfl
theorem witness_StepKeepsSettingsAndNozzlesInRange : SettingsInRange busy ∧ NozzlesInRange busy := by
  refine ⟨by unfold SettingsInRange; decide +kernel, fun g => ?_⟩
  rw [busy_nozzle]
  unfold NozzleRecord.inRange
  split <;> decide
theorem witness_StepKeepsWithinCapacity : WithinCapacity busy := by
  refine ⟨by decide +kernel, ?_, by decide +kernel, by decide +kernel, by decide +kernel, by decide +kernel,
    by decide +kernel, by decide +kernel, fun g => ?_⟩
  · rintro bytes ⟨⟩
    decide
  · rw [busy_queue]
    split <;> decide
theorem witness_StepKeepsTalliesBalanced : TalliesBalance busy := by
  have balance : ∀ h : Chute, ∀ k, k < 16 →
      (busy.tally.sighting h k).seen = (busy.tally.sighting h k).outcomes + pendingCount busy h k := by decide +kernel
  exact ⟨⟨by decide +kernel, nofun, nofun⟩, fun h k hk _ => balance h k hk⟩
theorem witness_StepKeepsFiringsAccounted : FiringsAccounted busy := by
  refine ⟨by decide +kernel, fun g => ?_, by decide +kernel, by decide +kernel, by decide +kernel⟩
  rw [busy_queue]
  split <;> decide +kernel
theorem witness_StepKeepsWaitingInService : WaitingInService busy := by
  refine ⟨by decide +kernel, fun g => ?_⟩
  rw [busy_queue, busy_nozzle]
  split <;> decide
theorem witness_StepKeepsWorkFittingTheState : WorkFitsState busy := by
  refine ⟨fun h => absurd h (by decide), by decide +kernel, fun h => ⟨?_, ?_, ?_⟩, by decide +kernel, by decide +kernel,
    by decide +kernel, by decide +kernel, by decide +kernel⟩
  · revert h
    decide +kernel
  · revert h
    decide +kernel
  · intro t ht hk
    have closeAlls : ∀ h : Chute, (busy.busOf h).inFlight.map (·.kind) = some .closeAll := by decide +kernel
    have := closeAlls h
    rw [ht] at this
    exact absurd (Option.some.inj this) hk

end Sys2Proof.Tests
end

section
/-! What keeps a property of the state: one step, an event, a frame of the control link, in terms of the operations that
act in them. Every lemma here is about any property `P`, so that an invariant only has to look at those operations. -/

namespace Sys2Proof.Machine

/-- An operation keeps a property of the state. -/
def Keeps (P : State → Prop) (f : State → State) : Prop := ∀ s, P s → P (f s)

/-- A command keeps a property of the state. -/
def KeepsCmd (P : State → Prop) (cmd : State → State × Answer) : Prop := ∀ s, P s → P (cmd s).1

/-- A property that the receiver and the transmitter of the control link and the count of control errors are no part
of. -/
structure LinkBlind (P : State → Prop) : Prop where
  setFrameRx : ∀ r, Keeps P (setFrameRx r)
  controlError : ∀ r, Keeps P (controlError r)
  giveReply : ∀ kind a, Keeps P (giveReply kind a)

/-- The twenty commands, by the codes of 12.4, keep a property. -/
structure CommandsKeep (P : State → Prop) : Prop where
  poll : ∀ p, KeepsCmd P (cmdPoll p)
  notices : ∀ p, KeepsCmd P (cmdNotices p)
  rearm : ∀ p, KeepsCmd P (cmdRearm p)
  goRun : ∀ p, KeepsCmd P (cmdGoRun p)
  goStandby : ∀ p, KeepsCmd P (cmdGoStandby p)
  purge : ∀ p, KeepsCmd P (cmdPurge p)
  restart : ∀ p, KeepsCmd P (cmdRestart p)
  clearCold : ∀ p, KeepsCmd P (cmdClearCold p)
  dryOn : ∀ p, KeepsCmd P (cmdDryOn p)
  dryOff : ∀ p, KeepsCmd P (cmdDryOff p)
  window : ∀ p, KeepsCmd P (cmdWindow p)
  put : ∀ p, KeepsCmd P (cmdPut p)
  get : ∀ p, KeepsCmd P (cmdGet p)
  requestSwap : ∀ ls, KeepsCmd P (requestSwap ls)
  swapCancel : ∀ p, KeepsCmd P (cmdSwapCancel p)
  nozzleRead : ∀ p, KeepsCmd P (cmdNozzleRead p)
  nozzleWrite : ∀ p, KeepsCmd P (cmdNozzleWrite p)
  test : ∀ p, KeepsCmd P (cmdTest p)
  lane : ∀ p, KeepsCmd P (cmdLane p)
  query : ∀ p, KeepsCmd P (cmdQuery p)
  tally : ∀ p, KeepsCmd P (cmdTally p)
  setAirTrim : ∀ p, KeepsCmd P (cmdSetAirTrim p)
  setLinePeriod : ∀ p, KeepsCmd P (cmdSetLinePeriod p)
  setMaxAge : ∀ p, KeepsCmd P (cmdSetMaxAge p)
  setLeadMin : ∀ p, KeepsCmd P (cmdSetLeadMin p)
  setWidthMin : ∀ p, KeepsCmd P (cmdSetWidthMin p)
  setWidthMax : ∀ p, KeepsCmd P (cmdSetWidthMax p)
  setWidthCap : ∀ p, KeepsCmd P (cmdSetWidthCap p)
  setValveGap : ∀ p, KeepsCmd P (cmdSetValveGap p)
  setReplyWait : ∀ p, KeepsCmd P (cmdSetReplyWait p)
  setMissLimit : ∀ p, KeepsCmd P (cmdSetMissLimit p)
  setWindDownLimit : ∀ p, KeepsCmd P (cmdSetWindDownLimit p)
  setGroupAddress : ∀ p, KeepsCmd P (cmdSetGroupAddress p)
  setNoticeMask : ∀ p, KeepsCmd P (cmdSetNoticeMask p)

variable {P : State → Prop}

theorem live_keeps {f : State → State} (hf : Keeps P f) {s t : State} (hs : P s) (h : live f s = .next t) : P t := by
  obtain rfl := Host.Outcome.next.inj h
  split
  · exact hs
  · exact hf s hs

theorem refuse_keeps (r : Result) : KeepsCmd P (refuse r) := fun _ h => h

theorem foldl_keeps {α : Type} {f : State → α → State} (hf : ∀ a, Keeps P fun s => f s a) (l : List α) :
    Keeps P fun s => l.foldl f s := by
  induction l with
  | nil => exact fun _ h => h
  | cons a l ih => exact fun s h => ih (f s a) (hf a s h)

/-! ### Commands by their frames -/

theorem CommandsKeep.swapAtLine (hc : CommandsKeep P) (p : List Byte) : KeepsCmd P (cmdSwapAtLine p) := by
  intro s h
  unfold cmdSwapAtLine
  split
  · exact hc.requestSwap _ s h
  · exact h

theorem CommandsKeep.swapAtNextLine (hc : CommandsKeep P) (p : List Byte) : KeepsCmd P (cmdSwapAtNextLine p) := by
  intro s h
  unfold cmdSwapAtNextLine
  split
  · exact hc.requestSwap _ s h
  · exact h

/-- Whichever command a choice takes, the property is kept. -/
theorem keeps_ite {c : Prop} [Decidable c] {a b : State × Answer} (ha : P a.1) (hb : P b.1) :
    P (if c then a else b).1 := by
  split
  · exact ha
  · exact hb

theorem CommandsKeep.swap (hc : CommandsKeep P) (p : List Byte) : KeepsCmd P (cmdSwap p) := by
  intro s h
  unfold cmdSwap
  split
  · exact keeps_ite h <| keeps_ite (hc.swapAtLine _ s h) <| keeps_ite (hc.swapAtNextLine _ s h) <|
      keeps_ite (hc.swapCancel _ s h) h
  · exact h

theorem CommandsKeep.dry (hc : CommandsKeep P) (p : List Byte) : KeepsCmd P (cmdDry p) := by
  intro s h
  unfold cmdDry
  split
  · exact keeps_ite h <| keeps_ite (hc.dryOn _ s h) <| keeps_ite (hc.dryOff _ s h) h
  · exact h

theorem CommandsKeep.set (hc : CommandsKeep P) (p : List Byte) : KeepsCmd P (cmdSet p) := by
  intro s h
  unfold cmdSet
  split
  · exact keeps_ite h <| keeps_ite (hc.setAirTrim _ s h) <| keeps_ite (hc.setLinePeriod _ s h) <|
      keeps_ite (hc.setMaxAge _ s h) <| keeps_ite (hc.setLeadMin _ s h) <| keeps_ite (hc.setWidthMin _ s h) <|
      keeps_ite (hc.setWidthMax _ s h) <| keeps_ite (hc.setWidthCap _ s h) <| keeps_ite (hc.setValveGap _ s h) <|
      keeps_ite (hc.setReplyWait _ s h) <| keeps_ite (hc.setMissLimit _ s h) <|
      keeps_ite (hc.setWindDownLimit _ s h) <| keeps_ite (hc.setGroupAddress _ s h) <|
      keeps_ite (hc.setNoticeMask _ s h) h
  · exact h

theorem answer_keeps (hl : LinkBlind P) {cmd : State → State × Answer} (hc : KeepsCmd P cmd) (addr kind : Byte)
    (replyOnly : Bool) : Keeps P (answer addr kind replyOnly cmd) := by
  intro s h
  unfold answer
  split
  · exact h
  · split
    · exact h
    · exact hc s h
  · exact hl.giveReply _ _ _ (hc s h)

theorem judgeFrame_keeps (hl : LinkBlind P) (hc : CommandsKeep P) (addr kind : Byte) (p : List Byte) :
    Keeps P (judgeFrame addr kind p) := by
  intro s h
  unfold judgeFrame
  split
  · exact h
  · split
    · exact answer_keeps hl (hc.poll p) _ _ _ s h
    · exact answer_keeps hl (hc.notices p) _ _ _ s h
    · exact answer_keeps hl (hc.rearm p) _ _ _ s h
    · exact answer_keeps hl (hc.goRun p) _ _ _ s h
    · exact answer_keeps hl (hc.goStandby p) _ _ _ s h
    · exact answer_keeps hl (hc.purge p) _ _ _ s h
    · exact answer_keeps hl (hc.restart p) _ _ _ s h
    · exact answer_keeps hl (hc.clearCold p) _ _ _ s h
    · exact answer_keeps hl (hc.dry p) _ _ _ s h
    · exact answer_keeps hl (hc.window p) _ _ _ s h
    · exact answer_keeps hl (hc.put p) _ _ _ s h
    · exact answer_keeps hl (hc.get p) _ _ _ s h
    · exact answer_keeps hl (hc.swap p) _ _ _ s h
    · exact answer_keeps hl (hc.nozzleRead p) _ _ _ s h
    · exact answer_keeps hl (hc.nozzleWrite p) _ _ _ s h
    · exact answer_keeps hl (hc.test p) _ _ _ s h
    · exact answer_keeps hl (hc.lane p) _ _ _ s h
    · exact answer_keeps hl (hc.set p) _ _ _ s h
    · exact answer_keeps hl (hc.query p) _ _ _ s h
    · exact answer_keeps hl (hc.tally p) _ _ _ s h
    · exact answer_keeps hl (refuse_keeps .unknown) _ _ _ s h

theorem completeFrame_keeps (hl : LinkBlind P) (hc : CommandsKeep P) (frame : List Byte) :
    Keeps P (completeFrame frame) := by
  intro s h
  unfold completeFrame
  split
  · simp only
    split
    · exact judgeFrame_keeps hl hc _ _ _ _ (hl.setFrameRx _ s h)
    · exact hl.controlError _ s h
  · exact h

theorem frameByte_keeps (hl : LinkBlind P) (hc : CommandsKeep P) (b : Byte) : Keeps P fun s => frameByte s b := by
  intro s h
  simp only [frameByte]
  split
  · split
    · exact hl.setFrameRx _ s h
    · exact h
  · split
    · exact hl.controlError _ s h
    · split
      · exact completeFrame_keeps hl hc _ s h
      · exact hl.setFrameRx _ s h
  · exact h

theorem frameBytesIn_keeps (hl : LinkBlind P) (hc : CommandsKeep P) (bytes : List Byte) :
    Keeps P (frameBytesIn bytes) :=
  foldl_keeps (frameByte_keeps hl hc) bytes

theorem frameGap_keeps (hl : LinkBlind P) : Keeps P frameGap := by
  intro s h
  unfold frameGap
  split
  · exact hl.controlError _ s h
  · exact hl.setFrameRx _ s h
  · exact h

theorem receiveFrame_keeps (hl : LinkBlind P) (hc : CommandsKeep P) {judge : State → State} (hj : Keeps P judge)
    (addr kind : Byte) (p : List Byte) : Keeps P (receiveFrame addr kind p judge) := by
  intro s h
  unfold receiveFrame
  split
  · exact hj s h
  · exact frameBytesIn_keeps hl hc _ s h

theorem hostCommand_keeps (hl : LinkBlind P) (hc : CommandsKeep P) {cmd : State → State × Answer} (hk : KeepsCmd P cmd)
    {addr kind : Byte} {p : List Byte} {replyOnly : Bool} {s t : State} (hs : P s)
    (h : hostCommand addr kind p replyOnly cmd s = .next t) : P t :=
  live_keeps (receiveFrame_keeps hl hc (answer_keeps hl hk _ _ _) _ _ _) hs h

/-! ### Records, planning steps, a step -/

theorem recordBytesIn_keeps (hb : ∀ b, Keeps P fun s => recordByte s b) (bytes : List Byte) :
    Keeps P (recordBytesIn bytes) :=
  foldl_keeps hb bytes

theorem planStep_keeps (he : Keeps P endWindDown) {f : PlanRecord → State → State}
    (hf : ∀ r s, s.planner = some r → P s → P (f r s)) (step : PlanStep) : Keeps P (planStep step f) := by
  intro s h
  unfold planStep
  split
  · split
    · exact he _ (hf _ s ‹_› h)
    · exact h
  · exact h

/-- The events of the part and of its inputs keep a property. A step of planning is given the record in the planner. -/
structure EventsKeep (P : State → Prop) : Prop where
  heldInReset : Keeps P heldInReset
  coldResetEnd : ∀ straps estop airlow, Keeps P (coldResetEnd straps estop airlow)
  lsyncPulse : Keeps P lsyncPulse
  lsyncLow : Keeps P fun s => { s with clk := { s.clk with lsync := .low } }
  recordByte : ∀ b, Keeps P fun s => recordByte s b
  recordGap : Keeps P recordGap
  collecting : Keeps P (setRecordRx (.collecting []))
  plannerTake : Keeps P plannerTake
  endWindDown : Keeps P endWindDown
  ageStep : ∀ r s, s.planner = some r → P s → P (ageStep r s)
  bankStep : ∀ r s, s.planner = some r → P s → P (bankStep r s)
  bandStep : ∀ r s, s.planner = some r → P s → P (bandStep r s)
  nozzleSetStep : ∀ r s, s.planner = some r → P s → P (nozzleSetStep r s)
  sizeBandStep : ∀ r s, s.planner = some r → P s → P (sizeBandStep r s)
  widthStep : ∀ r s, s.planner = some r → P s → P (widthStep r s)
  flightStep : ∀ r s, s.planner = some r → P s → P (flightStep r s)
  seenTimeStep : ∀ r s, s.planner = some r → P s → P (seenTimeStep r s)
  perNozzleTimesStep : ∀ r s, s.planner = some r → P s → P (perNozzleTimesStep r s)
  leadStep : ∀ r s, s.planner = some r → P s → P (leadStep r s)
  confidenceStep : ∀ r s, s.planner = some r → P s → P (confidenceStep r s)
  placement : ∀ r s, s.planner = some r → P s → P (placement r s)
  deadlineExpiry : ∀ h tag, Keeps P (deadlineExpiry h tag)
  entryStart : ∀ g, Keeps P (entryStart g)
  entryEnd : ∀ g, Keeps P (entryEnd g)
  grant : ∀ h, Keeps P fun s => conclude (grantNext h s)
  commandSent : ∀ h, Keeps P (commandSent h)
  replyWaitExpiry : ∀ h, Keeps P (replyWaitExpiry h)
  valveReply : ∀ h lane bytes, Keeps P (valveReply h lane bytes)
  estopAssertion : Keeps P estopAssertion
  estopRelease : Keeps P fun s => { s with ctl := { s.ctl with estop := false } }
  airlowAssertion : Keeps P airlowAssertion
  airlowRelease : Keeps P fun s => { s with ctl := { s.ctl with airlow := false } }
  purgeTurn : Keeps P purgeTurn
  concludePurge : Keeps P concludePurge
  windDownLimitExpiry : Keeps P windDownLimitExpiry
  warmReset : Keeps P warmReset
  concludeDry : Keeps P concludeDry
  replyTurnaroundEnd : Keeps P replyTurnaroundEnd
  replySent : Keeps P replySent

theorem lsyncPulseEnd_keeps (hlow : Keeps P fun s => { s with clk := { s.clk with lsync := .low } }) {s t : State}
    (hs : P s) (h : execLsyncPulseEnd s = .next t) : P t := by
  refine live_keeps (fun s hs => ?_) hs h
  split
  · exact hs
  all_goals
    split
    · exact hlow s hs
    · exact hs

theorem grant_keeps {h : Chute} (hg : Keeps P fun s => conclude (grantNext h s)) {s t : State} (hs : P s)
    (he : execGrant h s = .next t) : P t := by
  refine live_keeps (fun s hs => ?_) hs he
  split
  · exact hs
  · split
    · exact hg s hs
    · exact hs

/-- A property that the control link is blind to, that every command keeps and every event keeps, is kept whatever is
executed. -/
theorem exec_keeps (hl : LinkBlind P) (hc : CommandsKeep P) (he : EventsKeep P) (c : Instr) (s t : State) (hs : P s)
    (h : exec c s = .next t) : P t := by
  cases c with
  | rstnLow =>
    obtain rfl := Host.Outcome.next.inj h
    exact he.heldInReset s hs
  | coldResetEnd straps estop airlow =>
    obtain rfl := Host.Outcome.next.inj h
    split
    · exact he.coldResetEnd straps estop airlow s hs
    · exact hs
  | lsyncPulse =>
    refine live_keeps (fun u hu => ?_) hs (show execLsyncPulse s = .next t from h)
    split
    · exact he.lsyncPulse u hu
    · exact hu
  | sightingRecord bytes => exact live_keeps (recordBytesIn_keeps he.recordByte bytes) hs h
  | verdictRecord bytes => exact live_keeps (recordBytesIn_keeps he.recordByte bytes) hs h
  | partialRecordTimeout bytes =>
    exact live_keeps (fun s hs => he.recordGap _ (recordBytesIn_keeps he.recordByte bytes s hs)) hs h
  | resyncIdleTimeout =>
    refine live_keeps (fun u hu => ?_) hs (show execResyncIdleTimeout s = .next t from h)
    split
    · exact he.collecting u hu
    · exact hu
  | plannerTake => exact live_keeps (he.plannerTake) hs h
  | ageStep => exact live_keeps (planStep_keeps he.endWindDown he.ageStep _) hs h
  | bankStep => exact live_keeps (planStep_keeps he.endWindDown he.bankStep _) hs h
  | bandStep => exact live_keeps (planStep_keeps he.endWindDown he.bandStep _) hs h
  | nozzleSetStep => exact live_keeps (planStep_keeps he.endWindDown he.nozzleSetStep _) hs h
  | sizeBandStep => exact live_keeps (planStep_keeps he.endWindDown he.sizeBandStep _) hs h
  | widthStep => exact live_keeps (planStep_keeps he.endWindDown he.widthStep _) hs h
  | flightStep => exact live_keeps (planStep_keeps he.endWindDown he.flightStep _) hs h
  | seenTimeStep => exact live_keeps (planStep_keeps he.endWindDown he.seenTimeStep _) hs h
  | perNozzleTimesStep => exact live_keeps (planStep_keeps he.endWindDown he.perNozzleTimesStep _) hs h
  | leadStep => exact live_keeps (planStep_keeps he.endWindDown he.leadStep _) hs h
  | confidenceStep => exact live_keeps (planStep_keeps he.endWindDown he.confidenceStep _) hs h
  | placement => exact live_keeps (planStep_keeps he.endWindDown he.placement _) hs h
  | deadlineExpiry chute tag => exact live_keeps (he.deadlineExpiry chute tag) hs h
  | entryStart g => exact live_keeps (he.entryStart g) hs h
  | entryEnd g => exact live_keeps (he.entryEnd g) hs h
  | grant chute => exact grant_keeps (he.grant chute) hs h
  | commandSent chute => exact live_keeps (he.commandSent chute) hs h
  | replyWaitExpiry chute => exact live_keeps (he.replyWaitExpiry chute) hs h
  | valveReply chute lane bytes => exact live_keeps (he.valveReply chute lane bytes) hs h
  | estopAssertion => exact live_keeps (he.estopAssertion) hs h
  | estopRelease => exact live_keeps (he.estopRelease) hs h
  | airlowAssertion => exact live_keeps (he.airlowAssertion) hs h
  | airlowRelease => exact live_keeps (he.airlowRelease) hs h
  | purgeTurn => exact live_keeps (he.purgeTurn) hs h
  | purgeComplete => exact live_keeps (he.concludePurge) hs h
  | windDownLimitExpiry => exact live_keeps (he.windDownLimitExpiry) hs h
  | warmReset =>
    refine live_keeps (fun u hu => ?_) hs (show execWarmReset s = .next t from h)
    split
    · exact he.warmReset u hu
    · exact hu
  | dryFlagSet => exact live_keeps (he.concludeDry) hs h
  | controlError bytes => exact live_keeps (frameBytesIn_keeps hl hc bytes) hs h
  | frameIdleTimeout bytes =>
    exact live_keeps (fun s hs => frameGap_keeps hl _ (frameBytesIn_keeps hl hc bytes s hs)) hs h
  | controlResyncTimeout =>
    refine live_keeps (fun u hu => ?_) hs (show execControlResyncTimeout s = .next t from h)
    split
    · exact hl.setFrameRx _ u hu
    · exact hu
  | replyTurnaroundEnd => exact live_keeps (he.replyTurnaroundEnd) hs h
  | replySent => exact live_keeps (he.replySent) hs h
  | unknownCommand addr kind p =>
    exact live_keeps (receiveFrame_keeps hl hc (judgeFrame_keeps hl hc addr kind p) _ _ _) hs h
  | poll _ p => exact hostCommand_keeps hl hc (hc.poll p) hs h
  | notices _ p => exact hostCommand_keeps hl hc (hc.notices p) hs h
  | rearm _ p => exact hostCommand_keeps hl hc (hc.rearm p) hs h
  | goRun _ p => exact hostCommand_keeps hl hc (hc.goRun p) hs h
  | goStandby _ p => exact hostCommand_keeps hl hc (hc.goStandby p) hs h
  | purge _ p => exact hostCommand_keeps hl hc (hc.purge p) hs h
  | restart _ p => exact hostCommand_keeps hl hc (hc.restart p) hs h
  | clearCold _ p => exact hostCommand_keeps hl hc (hc.clearCold p) hs h
  | dryOn _ p => exact hostCommand_keeps hl hc (hc.dryOn p) hs h
  | dryOff _ p => exact hostCommand_keeps hl hc (hc.dryOff p) hs h
  | window _ p => exact hostCommand_keeps hl hc (hc.window p) hs h
  | put _ p => exact hostCommand_keeps hl hc (hc.put p) hs h
  | get _ p => exact hostCommand_keeps hl hc (hc.get p) hs h
  | swapAtLine _ p => exact hostCommand_keeps hl hc (hc.swapAtLine p) hs h
  | swapAtNextLine _ p => exact hostCommand_keeps hl hc (hc.swapAtNextLine p) hs h
  | swapCancel _ p => exact hostCommand_keeps hl hc (hc.swapCancel p) hs h
  | nozzleRead _ p => exact hostCommand_keeps hl hc (hc.nozzleRead p) hs h
  | nozzleWrite _ p => exact hostCommand_keeps hl hc (hc.nozzleWrite p) hs h
  | test _ p => exact hostCommand_keeps hl hc (hc.test p) hs h
  | lane _ p => exact hostCommand_keeps hl hc (hc.lane p) hs h
  | setAirTrim _ p => exact hostCommand_keeps hl hc (hc.setAirTrim p) hs h
  | setLinePeriod _ p => exact hostCommand_keeps hl hc (hc.setLinePeriod p) hs h
  | setMaxAge _ p => exact hostCommand_keeps hl hc (hc.setMaxAge p) hs h
  | setLeadMin _ p => exact hostCommand_keeps hl hc (hc.setLeadMin p) hs h
  | setWidthMin _ p => exact hostCommand_keeps hl hc (hc.setWidthMin p) hs h
  | setWidthMax _ p => exact hostCommand_keeps hl hc (hc.setWidthMax p) hs h
  | setWidthCap _ p => exact hostCommand_keeps hl hc (hc.setWidthCap p) hs h
  | setValveGap _ p => exact hostCommand_keeps hl hc (hc.setValveGap p) hs h
  | setReplyWait _ p => exact hostCommand_keeps hl hc (hc.setReplyWait p) hs h
  | setMissLimit _ p => exact hostCommand_keeps hl hc (hc.setMissLimit p) hs h
  | setWindDownLimit _ p => exact hostCommand_keeps hl hc (hc.setWindDownLimit p) hs h
  | setGroupAddress _ p => exact hostCommand_keeps hl hc (hc.setGroupAddress p) hs h
  | setNoticeMask _ p => exact hostCommand_keeps hl hc (hc.setNoticeMask p) hs h
  | query _ p => exact hostCommand_keeps hl hc (hc.query p) hs h
  | tally _ p => exact hostCommand_keeps hl hc (hc.tally p) hs h
  | lsyncPulseEnd => exact lsyncPulseEnd_keeps he.lsyncLow hs h

/-- What every command keeps, and what the queue of commands and the passing of time leave alone, every step keeps. -/
theorem step_keeps (hp : ∀ s l, P s → P { s with pending := l }) (ht : Keeps P tick)
    (hx : ∀ c s t, P s → exec c s = .next t → P t) {s t : State} (hs : P s) (h : step s = .next t) : P t := by
  unfold step at h
  split at h
  · exact hx _ _ _ (hp _ _ hs) h
  · unfold idle at h
    split at h
    · exact hx _ _ _ hs h
    · obtain rfl := Host.Outcome.next.inj h
      unfold idleTick
      split
      · exact hs
      · exact ht s hs

end Sys2Proof.Machine
end

section
/-! The capacities (R10, R13, R17, R61, R80, R87): what each operation on the queues, the port and the held list
keeps. -/

namespace Sys2Proof.Machine

/-! ### The queues (R61) -/

/-- A canonical table of queues of at most eight entries. -/
def QueuesFit (q : Tab (List Entry)) : Prop := Tab.wf [] q = true ∧ ∀ g, (Tab.get [] q g).length ≤ 8

/-- The state's queues fit. -/
def QueuesFitOf (s : State) : Prop := QueuesFit s.firing.queues

theorem queuesFit_nil : QueuesFit [] := ⟨rfl, fun g => by simp⟩

theorem QueuesFit.set {q : Tab (List Entry)} (h : QueuesFit q) (g : Nat) {l : List Entry} (hl : l.length ≤ 8) :
    QueuesFit (Tab.set [] q g l) := by
  obtain ⟨hw, hq⟩ := h
  refine ⟨Tab.wf_set hw g l, fun g' => ?_⟩
  by_cases hg : g' = g
  · rw [hg, Tab.get_set_same]
    exact hl
  · rw [Tab.get_set_other _ _ _ hg]
    exact hq g'

/-- A map over the queues that makes none longer keeps them fit. -/
theorem QueuesFit.mapListed {q : Tab (List Entry)} (h : QueuesFit q) {f : List Entry → List Entry}
    (hf : ∀ l, (f l).length ≤ l.length) : QueuesFit (Tab.mapListed [] (fun _ => f) q) := by
  obtain ⟨hw, hq⟩ := h
  refine ⟨Tab.wf_mapListed hw _, fun g => ?_⟩
  rw [Tab.get_mapListed hw _ g (List.length_eq_zero_iff.1 (Nat.le_zero.1 (hf [])))]
  exact (hf _).trans (hq g)

/-- A queue replaced by one that is no longer. -/
theorem setQueue_fit {s : State} (h : QueuesFitOf s) {g : Nat} {l : List Entry} (hl : l.length ≤ (s.queue g).length) :
    QueuesFitOf (s.setQueue g l) :=
  QueuesFit.set h g (hl.trans (h.2 g))

theorem removeEntry_fit (g ident : Nat) : Keeps QueuesFitOf (removeEntry g ident) :=
  fun _ h => setQueue_fit h (List.length_filter_le _ _)

theorem updateEntry_fit (g ident : Nat) (f : Entry → Entry) : Keeps QueuesFitOf (updateEntry g ident f) :=
  fun _ h => setQueue_fit h (List.length_map _).le

theorem abandonWaiting_fit (g : Nat) : Keeps QueuesFitOf (abandonWaiting g) :=
  fun _ h => setQueue_fit h (List.length_filter_le _ _)

theorem abandonOrigin_fit (o : Origin) : Keeps QueuesFitOf (abandonOrigin o) :=
  fun _ h => QueuesFit.mapListed h fun _ => List.length_filter_le _ _

theorem reduceQueues_fit : Keeps QueuesFitOf reduceQueues :=
  fun _ h => QueuesFit.mapListed h fun _ => List.length_filterMap_le _ _

theorem emptyQueues_fit : Keeps QueuesFitOf emptyQueues := fun _ _ => queuesFit_nil

theorem closeEarly_fit (g : Nat) (e : Entry) : Keeps QueuesFitOf (closeEarly g e) := by
  intro s h
  unfold closeEarly
  simp only
  split
  · exact removeEntry_fit g e.ident (s.setOpenCount _ _) h
  · refine updateEntry_fit g e.ident _ _ ?_
    split <;> exact h

theorem length_insertEntry (x : Entry) (q : List Entry) : (insertEntry x q).length = q.length + 1 := by
  obtain ⟨earlier, later, rfl, -, -, h⟩ := insertEntry_split x q
  rw [h]
  simp
  omega

theorem length_absorb_le (y : Entry) (others q : List Entry) : (absorb y others q).length ≤ q.length := by
  unfold absorb
  rw [List.length_map]
  exact List.length_filter_le _ _

/-- An offer creates an entry only where the queue has room (R67), and a merge makes no queue longer (R68). -/
theorem offer_fit (g : Nat) (c e : Time) (prio : Nat) (o : Origin) :
    Keeps QueuesFitOf fun s => (offer g c e prio o s).1 := by
  intro s h
  simp only [offer]
  split
  · exact h
  · split
    · split
      · rename_i hroom
        refine QueuesFit.set h g ?_
        rw [length_insertEntry]
        exact hroom
      · exact h
    · split
      · exact h
      · exact setQueue_fit h (length_absorb_le _ _ _)

theorem placeOne_fit (prio : Nat) (f : PlanFiring) : Keeps QueuesFitOf fun s => (placeOne prio s f).1 := by
  intro s h
  have ho := offer_fit f.nozzle f.command f.stop prio .sighting s h
  simp only [placeOne]
  split
  · exact h
  · split
    · exact h
    · revert ho
      simp only
      generalize offer f.nozzle f.command f.stop prio .sighting s = r
      rcases r with ⟨t, _ | _ | _ | _⟩ <;> exact id

theorem placePlan_fit (prio : Nat) (plan : List PlanFiring) : Keeps QueuesFitOf fun s => (placePlan prio plan s).1 := by
  induction plan with
  | nil => exact fun _ h => h
  | cons f fs ih => exact fun s h => ih _ (placeOne_fit prio f s h)

theorem placeAndCount_fit (h : Chute) (k prio : Nat) (plan : List PlanFiring) :
    Keeps QueuesFitOf (placeAndCount h k prio plan) := fun s hs => placePlan_fit prio plan s hs

theorem applyPolicy_fit (e : HeldEntry) : Keeps QueuesFitOf (applyPolicy e) := by
  intro s h
  unfold applyPolicy
  split
  · exact placeAndCount_fit _ _ _ _ s h
  · exact h

theorem purgeOffer_fit (width n : Nat) (h : Chute) : Keeps QueuesFitOf (purgeOffer width n h) := by
  intro s hs
  unfold purgeOffer
  simp only
  split
  · have ho := offer_fit (globalId h n) (plus s.clk.now s.settings.leadMin)
      (plus (plus s.clk.now s.settings.leadMin) width) 0 .purge s hs
    revert ho
    simp only
    generalize offer (globalId h n) (plus s.clk.now s.settings.leadMin)
      (plus (plus s.clk.now s.settings.leadMin) width) 0 .purge s = r
    rcases r with ⟨t, _ | _ | _ | _⟩ <;> exact id
  · exact hs

theorem makeFailed_fit (g : Nat) (cause : FailureCause) : Keeps QueuesFitOf (makeFailed g cause) := by
  intro s h
  unfold makeFailed
  simp only
  split
  · exact h
  · split
    · exact abandonWaiting_fit g (setNotice _ _ (s.setNozzle g _)) h
    · exact h

theorem admitEntry_fit (g : Nat) (x : Entry) : Keeps QueuesFitOf (admitEntry g x) := by
  intro s h
  unfold admitEntry
  simp only
  split <;> exact updateEntry_fit g x.ident _ (s.setOpenCount _ _) h

theorem judgeStart_fit (g : Nat) (x : Entry) : Keeps QueuesFitOf (judgeStart g x) := by
  intro s h
  have hstarve : QueuesFitOf (starveEntry g x s) := removeEntry_fit g x.ident s h
  unfold judgeStart arbitrate
  simp only
  split
  · exact admitEntry_fit g x s h
  · split
    · split
      · split
        · exact admitEntry_fit g x _ (closeEarly_fit _ _ (countChute _ _ s) h)
        · exact hstarve
      · exact hstarve
    · exact hstarve

theorem endEntry_fit (g : Nat) (e : Entry) : Keeps QueuesFitOf (endEntry g e) := by
  intro s h
  unfold endEntry
  simp only
  split
  · exact updateEntry_fit g e.ident _ (s.setOpenCount _ _) h
  · exact removeEntry_fit g e.ident (s.setOpenCount _ _) h

theorem grantLoop_fit (h : Chute) (fuel : Nat) : Keeps QueuesFitOf (grantLoop h fuel) := by
  induction fuel with
  | zero => exact fun _ hs => hs
  | succ fuel ih =>
    intro s hs
    unfold grantLoop
    split
    · exact hs
    · rename_i r _
      have ht : QueuesFitOf (takeRequest h r s) := hs
      simp only
      split
      · split
        · exact ih _ ht
        · split
          · exact ih _ ht
          · split
            · exact ih _ (removeEntry_fit _ _ ((takeRequest h r s).setOpenCount _ _) ht)
            · exact updateEntry_fit _ _ _ _ ht
      · exact updateEntry_fit _ _ _ _ ht

theorem grantNext_fit (h : Chute) : Keeps QueuesFitOf (grantNext h) := by
  intro s hs
  unfold grantNext
  simp only
  split
  · exact hs
  · split
    · exact hs
    · exact grantLoop_fit h _ s hs

theorem grantAll_fit : Keeps QueuesFitOf grantAll :=
  fun s h => grantNext_fit 3 _ (grantNext_fit 2 _ (grantNext_fit 1 _ (grantNext_fit 0 s h)))

theorem nozzleEffect_fit (t : Transaction) (result : LastResult) (m : Nat) :
    Keeps QueuesFitOf (nozzleEffect t result m) := by
  intro s h
  have hset : ∀ g r, QueuesFitOf (s.setNozzle g r) := fun _ _ => h
  unfold nozzleEffect
  split
  · exact h
  · unfold openNoReply
    simp only
    split
    · exact makeFailed_fit _ _ _ (hset _ _)
    · exact h
  · exact makeFailed_fit _ _ _ (hset _ _)
  · exact h
  · exact makeFailed_fit _ _ _ (hset _ _)
  · exact makeFailed_fit _ _ _ (hset _ _)
  · exact h

theorem openCompleted_fit (g : Nat) (e : Entry) : Keeps QueuesFitOf (openCompleted g e) := by
  intro s h
  unfold openCompleted
  simp only
  split
  · exact updateEntry_fit g e.ident _ (s.setOpenCount _ _) h
  · exact updateEntry_fit g e.ident _ s h

theorem dispatchEffect_fit (t : Transaction) (result : LastResult) : Keeps QueuesFitOf (dispatchEffect t result) := by
  intro s h
  unfold dispatchEffect
  split
  · unfold dispatchOpen
    split
    · exact h
    · have hcount : ∀ c, QueuesFitOf (countChute (chuteOf t.nozzle) c s) := fun _ => h
      simp only
      split
      · exact openCompleted_fit _ _ _ (hcount _)
      · exact updateEntry_fit _ _ _ _ (hcount _)
  · unfold dispatchClose
    split
    · split
      · exact removeEntry_fit _ _ s h
      · exact h
    · exact h
  · exact h

theorem freeBus_fit (h : Chute) : Keeps QueuesFitOf (freeBus h) :=
  fun s hs => grantNext_fit h (s.setBus h _) hs

/-! ### The sighting port (R10, R13, R17) -/

/-- A partial record of at most eleven bytes, an intake of at most 64 sightings, and HOLD in step with it. -/
def PortFits (p : SightingPort) : Prop :=
  (∀ bytes, p.rx = .collecting bytes → bytes.length ≤ 11) ∧ p.intake.length ≤ 64 ∧
    (48 ≤ p.intake.length → p.hold = true) ∧ (p.intake.length ≤ 16 → p.hold = false)

theorem portFits_empty : PortFits ⟨.collecting [], [], false⟩ := by
  refine ⟨?_, by simp⟩
  rintro bytes ⟨⟩
  simp

/-- HOLD is in step with whatever intake it is reviewed for (R17). -/
theorem PortFits.withIntake {p : SightingPort} (h : PortFits p) {l : List Sighting} (hl : l.length ≤ 64) :
    PortFits (p.withIntake l) := by
  refine ⟨h.1, hl, fun hrise => ?_, fun hfall => ?_⟩
  · exact if_pos hrise
  · have hfall : l.length ≤ 16 := hfall
    have hrise : ¬Config.holdRise ≤ l.length := by
      unfold Config.holdRise
      omega
    simp only [SightingPort.withIntake, holdAfter, if_neg hrise]
    exact if_pos hfall

theorem PortFits.withRx {p : SightingPort} (h : PortFits p) {bytes : List Byte} (hb : bytes.length ≤ 11) :
    PortFits { p with rx := .collecting bytes } := by
  obtain ⟨-, hp⟩ := h
  refine ⟨?_, hp⟩
  rintro _ ⟨⟩
  exact hb

theorem PortFits.resyncing {p : SightingPort} (h : PortFits p) : PortFits { p with rx := .resyncing } := by
  obtain ⟨-, hp⟩ := h
  exact ⟨nofun, hp⟩

/-! ### The held list and the rings (R80, R81, R87) -/

/-- A held list of at most 32 entries, no two with one chute and tag, and rings of at most eight tags. -/
def VerdictsFit (v : Verdicts) : Prop :=
  v.held.length ≤ 32 ∧ v.held.Pairwise (fun a b => ¬(a.chute = b.chute ∧ a.tag = b.tag)) ∧
    ∀ h : Chute, (v.rings.get h).length ≤ 8

theorem verdictsFit_empty : VerdictsFit ⟨[], PerChute.const []⟩ := by
  refine ⟨by simp, by simp, fun h => by simp⟩

theorem VerdictsFit.withHeld {v : Verdicts} (h : VerdictsFit v) {l : List HeldEntry} (hl : l.Sublist v.held) :
    VerdictsFit { v with held := l } := by
  obtain ⟨hlen, hpair, hring⟩ := h
  exact ⟨hl.length_le.trans hlen, hpair.sublist hl, hring⟩

theorem VerdictsFit.withRing {v : Verdicts} (h : VerdictsFit v) (k : Chute) {f : List Byte → List Byte}
    (hf : ∀ l, l.length ≤ 8 → (f l).length ≤ 8) : VerdictsFit { v with rings := v.rings.modify k f } := by
  obtain ⟨hlen, hpair, hring⟩ := h
  refine ⟨hlen, hpair, fun k' => ?_⟩
  unfold PerChute.modify
  by_cases hk : k' = k
  · rw [hk, PerChute.get_set_same]
    exact hf _ (hring k)
  · rw [PerChute.get_set_other _ _ _ _ hk]
    exact hring k'

theorem length_pushRing_le (tag : Byte) (ring : List Byte) (h : ring.length ≤ 8) : (pushRing tag ring).length ≤ 8 := by
  unfold pushRing Config.ringSize
  split <;> simp <;> omega

theorem length_dropNewest_le (tag : Byte) (ring : List Byte) : (dropNewest tag ring).length ≤ ring.length := by
  unfold dropNewest
  rw [List.length_reverse]
  exact (List.length_erase_le).trans (List.length_reverse).le

/-- An entry is inserted into the held list somewhere; the others keep their order. -/
theorem insertHeld_split (e : HeldEntry) (l : List HeldEntry) :
    ∃ sooner later, l = sooner ++ later ∧ insertHeld e l = sooner ++ e :: later := by
  induction l with
  | nil => exact ⟨[], [], rfl, rfl⟩
  | cons x l ih =>
    unfold insertHeld
    split
    · exact ⟨[], x :: l, rfl, rfl⟩
    · obtain ⟨sooner, later, hl, hi⟩ := ih
      exact ⟨x :: sooner, later, by simp [hl], by simp [hi]⟩

theorem insertHeld_perm (e : HeldEntry) (l : List HeldEntry) : (insertHeld e l).Perm (e :: l) := by
  obtain ⟨sooner, later, rfl, hi⟩ := insertHeld_split e l
  rw [hi]
  exact List.perm_middle

theorem findHeld_eq_none {h : Chute} {tag : Byte} {s : State} :
    findHeld h tag s = none ↔ ∀ x ∈ s.verdicts.held, ¬(x.chute = h ∧ x.tag = tag) := by
  simp [findHeld, HeldEntry.named, List.find?_eq_none]

/-- A held list with room that holds no entry of this chute and tag takes the entry. -/
theorem VerdictsFit.insert {v : Verdicts} (h : VerdictsFit v) {e : HeldEntry} (hroom : v.held.length < 32)
    (hnew : ∀ x ∈ v.held, ¬(x.chute = e.chute ∧ x.tag = e.tag)) :
    VerdictsFit { v with held := insertHeld e v.held } := by
  obtain ⟨-, hpair, hring⟩ := h
  have hperm := insertHeld_perm e v.held
  refine ⟨?_, ?_, hring⟩
  · rw [hperm.length_eq]
    exact hroom
  · refine (hperm.pairwise_iff ?_).2 (List.pairwise_cons.2 ⟨fun x hx hc => hnew x hx ⟨hc.1.symm, hc.2.symm⟩, hpair⟩)
    exact fun hab hba => hab ⟨hba.1.symm, hba.2.symm⟩

/-! ### Everything within its capacity -/

theorem withinCapacity_iff (s : State) :
    WithinCapacity s ↔ QueuesFitOf s ∧ PortFits s.port ∧ VerdictsFit s.verdicts := by
  unfold WithinCapacity QueuesFitOf QueuesFit PortFits VerdictsFit State.queue
  tauto

theorem WithinCapacity.parts {s : State} (h : WithinCapacity s) :
    QueuesFitOf s ∧ PortFits s.port ∧ VerdictsFit s.verdicts := (withinCapacity_iff s).1 h

/-- An operation that leaves the port and the held list alone has only the queues to keep. -/
theorem WithinCapacity.of_queues {s t : State} (h : WithinCapacity s) (hq : QueuesFitOf t) (hp : t.port = s.port)
    (hv : t.verdicts = s.verdicts) : WithinCapacity t := by
  obtain ⟨-, hport, hheld⟩ := h.parts
  exact (withinCapacity_iff t).2 ⟨hq, hp ▸ hport, hv ▸ hheld⟩

theorem WithinCapacity.of_port {s t : State} (h : WithinCapacity s) (hp : PortFits t.port) (hf : t.firing = s.firing)
    (hv : t.verdicts = s.verdicts) : WithinCapacity t := by
  obtain ⟨hq, -, hheld⟩ := h.parts
  unfold QueuesFitOf at hq
  exact (withinCapacity_iff t).2 ⟨by rwa [QueuesFitOf, hf], hp, hv ▸ hheld⟩

theorem WithinCapacity.of_verdicts {s t : State} (h : WithinCapacity s) (hv : VerdictsFit t.verdicts)
    (hf : t.firing = s.firing) (hp : t.port = s.port) : WithinCapacity t := by
  obtain ⟨hq, hport, -⟩ := h.parts
  unfold QueuesFitOf at hq
  exact (withinCapacity_iff t).2 ⟨by rwa [QueuesFitOf, hf], hp ▸ hport, hv⟩

/-- An operation that touches none of what has a capacity. -/
theorem WithinCapacity.of_same {s t : State} (h : WithinCapacity s) (hf : t.firing = s.firing) (hp : t.port = s.port)
    (hv : t.verdicts = s.verdicts) : WithinCapacity t :=
  h.of_verdicts (hv ▸ h.parts.2.2) hf hp

/-- What a reset leaves empty is within its capacity. -/
theorem WithinCapacity.of_empty {t : State} (hq : t.firing.queues = []) (hp : t.port = ⟨.collecting [], [], false⟩)
    (hv : t.verdicts = ⟨[], PerChute.const []⟩) : WithinCapacity t := by
  refine (withinCapacity_iff t).2 ⟨?_, hp ▸ portFits_empty, hv ▸ verdictsFit_empty⟩
  rw [QueuesFitOf, hq]
  exact queuesFit_nil

end Sys2Proof.Machine
end

section
/-! Every step keeps everything within its capacity (O55). -/

namespace Sys2Proof.Machine

/-! ### Ends and resets -/

theorem grantAll_keeps_capacity : Keeps WithinCapacity grantAll := by
  intro s h
  refine h.of_queues (grantAll_fit s h.parts.1) ?_ ?_ <;> rw [grantAll_frame]

theorem grantNext_keeps_capacity (k : Chute) : Keeps WithinCapacity (grantNext k) := by
  intro s h
  refine h.of_queues (grantNext_fit k s h.parts.1) ?_ ?_ <;> rw [grantNext_frame]

theorem concludeDry_keeps_capacity : Keeps WithinCapacity concludeDry := by
  intro s h
  rw [concludeDry_eq]
  exact h

theorem concludePurge_keeps_capacity : Keeps WithinCapacity concludePurge := by
  intro s h
  rw [concludePurge_frame]
  exact h

theorem enterState_keeps_capacity (op : OpState) : Keeps WithinCapacity (enterState op) := by
  intro s h
  rw [enterState_eq]
  exact h

theorem warmReset_withinCapacity (s : State) : WithinCapacity (warmReset s) := by
  unfold warmReset
  refine grantAll_keeps_capacity _ ?_
  split
  all_goals exact .of_empty rfl rfl rfl

theorem endWindDown_keeps_capacity : Keeps WithinCapacity endWindDown := by
  intro s h
  obtain ⟨he, -⟩ | ⟨he, -⟩ := endWindDown_cases s
  · rwa [he]
  · rw [he]
    exact warmReset_withinCapacity s

theorem conclude_keeps_capacity : Keeps WithinCapacity conclude :=
  fun s h => endWindDown_keeps_capacity _ (concludePurge_keeps_capacity _ (concludeDry_keeps_capacity s h))

theorem takeOwedReset_keeps_capacity : Keeps WithinCapacity takeOwedReset := by
  intro s h
  unfold takeOwedReset
  split
  · exact warmReset_withinCapacity s
  · exact h

theorem withCtl_capacity {s : State} (h : WithinCapacity s) (c : Controller) : WithinCapacity { s with ctl := c } := h

theorem setNotice_keeps_capacity (k : NoticeKind) (c : Option Chute) : Keeps WithinCapacity (setNotice k c) :=
  fun _ h => h

theorem coldEstop_keeps_capacity : Keeps WithinCapacity coldEstop :=
  fun _ h => setNotice_keeps_capacity _ _ _ (enterState_keeps_capacity .halt _ (withCtl_capacity h _))

theorem coldAirlow_keeps_capacity : Keeps WithinCapacity coldAirlow :=
  fun _ h => setNotice_keeps_capacity _ _ _ (withCtl_capacity h _)

theorem coldResetEnd_keeps_capacity (straps : BitVec 5) (estop airlow : Bool) :
    Keeps WithinCapacity (coldResetEnd straps estop airlow) := by
  intro s h
  have hclose : Keeps WithinCapacity requestCloseAll := fun _ h => h
  have hg := grantAll_keeps_capacity _ (hclose { s with
    ctl := { s.ctl with rstn := false }
    clk := LineClock.restarted coldPeriod
    link := { s.link with address := strapAddress straps } } h)
  have hestop : ∀ u, WithinCapacity u → WithinCapacity (if estop then coldEstop u else u) := by
    intro u hu
    split
    · exact coldEstop_keeps_capacity u hu
    · exact hu
  unfold coldResetEnd
  simp only
  split
  · exact coldAirlow_keeps_capacity _ (hestop _ hg)
  · exact hestop _ hg

/-! ### Giving up work -/

theorem abandonPlanning_keeps_capacity : Keeps WithinCapacity abandonPlanning := by
  intro s h
  rw [abandonPlanning_frame]
  exact h

theorem emptyIntake_keeps_capacity : Keeps WithinCapacity emptyIntake :=
  fun _ h => h.of_port (h.parts.2.1.withIntake (Nat.zero_le _)) rfl rfl

theorem emptyHeld_keeps_capacity : Keeps WithinCapacity emptyHeld :=
  fun _ h => h.of_verdicts (h.parts.2.2.withHeld (List.nil_sublist _)) rfl rfl

theorem emptyRings_keeps_capacity : Keeps WithinCapacity emptyRings := by
  intro s h
  obtain ⟨-, -, hlen, hpair, -⟩ := h.parts
  exact h.of_verdicts ⟨hlen, hpair, fun k => by simp [emptyRings]⟩ rfl rfl

theorem emergencyStop_keeps_capacity : Keeps WithinCapacity emergencyStop := by
  intro s h
  have hq : WithinCapacity (emptyQueues (requestCloseAll s)) := h.of_queues queuesFit_nil rfl rfl
  have he := emptyRings_keeps_capacity _ (emptyHeld_keeps_capacity _ (emptyIntake_keeps_capacity _
    (abandonPlanning_keeps_capacity _ (grantAll_keeps_capacity _ hq))))
  unfold emergencyStop
  simp only
  exact setNotice_keeps_capacity _ _ _ (enterState_keeps_capacity .halt _ (concludeDry_keeps_capacity _
    (withCtl_capacity he _)))

theorem estopAssertion_keeps_capacity : Keeps WithinCapacity estopAssertion := by
  intro s h
  unfold estopAssertion
  split
  · exact h
  · have ht := takeOwedReset_keeps_capacity s h
    exact emergencyStop_keeps_capacity { takeOwedReset s with ctl := { (takeOwedReset s).ctl with estop := true } } ht

theorem windDownLimitExpiry_keeps_capacity : Keeps WithinCapacity windDownLimitExpiry := by
  intro s h
  unfold windDownLimitExpiry
  split
  · split
    · have he := emptyHeld_keeps_capacity _ (emptyIntake_keeps_capacity _ (abandonPlanning_keeps_capacity s h))
      have hr : WithinCapacity (reduceQueues (emptyHeld (emptyIntake (abandonPlanning s)))) :=
        he.of_queues (reduceQueues_fit _ he.parts.1) rfl rfl
      unfold windDownExpiry
      simp only
      exact conclude_keeps_capacity _ (grantAll_keeps_capacity _ (withCtl_capacity hr _))
    · exact h
  · exact h

/-! ### The sighting port -/

theorem setRecordRx_keeps_capacity {bytes : List Byte} (hb : bytes.length ≤ 11) :
    Keeps WithinCapacity (setRecordRx (.collecting bytes)) :=
  fun _ h => h.of_port (h.parts.2.1.withRx hb) rfl rfl

theorem admitSighting_keeps_capacity (g : Sighting) : Keeps WithinCapacity (admitSighting g) := by
  intro s h
  unfold admitSighting
  split
  · split
    · rename_i hroom
      refine h.of_port (h.parts.2.1.withIntake ?_) rfl rfl
      rw [List.length_append]
      exact hroom
    · exact h
  · exact h

theorem placeAndCount_keeps_capacity (c : Chute) (k prio : Nat) (plan : List PlanFiring) :
    Keeps WithinCapacity (placeAndCount c k prio plan) := by
  intro s h
  refine h.of_queues (placeAndCount_fit c k prio plan s h.parts.1) ?_ ?_ <;> rw [placeAndCount_frame]

theorem removeHeld_keeps_capacity (c : Chute) (tag : Byte) : Keeps WithinCapacity (removeHeld c tag) :=
  fun _ h => h.of_verdicts (h.parts.2.2.withHeld List.eraseP_sublist) rfl rfl

theorem verdictWithoutEntry_keeps_capacity (c : Chute) (tag : Byte) :
    Keeps WithinCapacity (verdictWithoutEntry c tag) := by
  intro s h
  unfold verdictWithoutEntry
  split
  · exact h.of_verdicts (h.parts.2.2.withRing c fun l hl => (length_dropNewest_le tag l).trans hl) rfl rfl
  · exact h

theorem takeVerdict_keeps_capacity (c : Chute) (tag : Byte) (confirm : Bool) :
    Keeps WithinCapacity (takeVerdict c tag confirm) := by
  intro s h
  unfold takeVerdict
  split
  · split
    · have hr := removeHeld_keeps_capacity c tag s h
      refine endWindDown_keeps_capacity _ ?_
      split
      · exact placeAndCount_keeps_capacity _ _ _ _ _ hr
      · exact hr
    · exact verdictWithoutEntry_keeps_capacity c tag s h
  · exact h

theorem completeRecord_keeps_capacity (bytes : List Byte) : Keeps WithinCapacity (completeRecord bytes) := by
  intro s h
  have hc := setRecordRx_keeps_capacity (bytes := []) (Nat.zero_le _) s h
  unfold completeRecord
  split
  · exact h.of_port h.parts.2.1.resyncing rfl rfl
  · exact hc
  · exact admitSighting_keeps_capacity _ _ hc
  · exact takeVerdict_keeps_capacity _ _ _ _ hc

/-- A receiver gathers at most eleven bytes: the twelfth completes the record (R10). -/
theorem recordByte_keeps_capacity (b : Byte) : Keeps WithinCapacity fun s => recordByte s b := by
  intro s h
  simp only [recordByte]
  split
  · exact h
  · split
    · rename_i hlt
      exact setRecordRx_keeps_capacity (Nat.le_of_lt_succ hlt) s h
    · exact completeRecord_keeps_capacity _ s h

theorem recordGap_keeps_capacity : Keeps WithinCapacity recordGap := by
  intro s h
  have hc := setRecordRx_keeps_capacity (bytes := []) (Nat.zero_le _) s h
  unfold recordGap
  split
  · exact hc
  · exact h
  · exact hc

/-! ### The planner and the held list -/

theorem plannerTake_keeps_capacity : Keeps WithinCapacity plannerTake := by
  intro s h
  unfold plannerTake
  split
  · rename_i g rest _ hi
    obtain ⟨-, hport, -⟩ := h.parts
    refine h.of_port (hport.withIntake ?_) rfl rfl
    have := hport.2.1
    rw [hi, List.length_cons] at this
    omega
  · exact h

theorem applyPolicy_keeps_capacity (e : HeldEntry) : Keeps WithinCapacity (applyPolicy e) := by
  intro s h
  refine h.of_queues (applyPolicy_fit e s h.parts.1) ?_ ?_ <;> rw [applyPolicy_frame]

theorem expireSighting_keeps_capacity (e : HeldEntry) : Keeps WithinCapacity (expireSighting e) := by
  intro s h
  have hp : WithinCapacity (pushTag e.chute e.tag (countSighting e.chute e.cls .defaulted s)) :=
    h.of_verdicts (h.parts.2.2.withRing e.chute (length_pushRing_le e.tag)) rfl rfl
  exact applyPolicy_keeps_capacity e _ hp

/-- A hand-off is inserted only in a list with room that holds none of its chute and tag (R80, R81). -/
theorem handOff_keeps_capacity (e : HeldEntry) : Keeps WithinCapacity (handOff e) := by
  intro s h
  unfold handOff
  split
  · exact expireSighting_keeps_capacity e s h
  · split
    · exact applyPolicy_keeps_capacity e (countSighting _ _ _ (countChute _ _ s)) h
    · split
      · exact applyPolicy_keeps_capacity e (countSighting _ _ _ (setNotice _ _ s)) h
      · rename_i hfind hroom
        have hnew := findHeld_eq_none.1 (Option.not_isSome_iff_eq_none.1 hfind)
        exact h.of_verdicts (h.parts.2.2.insert (Nat.lt_of_not_le hroom) hnew) rfl rfl

theorem deadlineExpiry_keeps_capacity (c : Chute) (tag : Byte) : Keeps WithinCapacity (deadlineExpiry c tag) := by
  intro s h
  unfold deadlineExpiry
  split
  · split
    · exact endWindDown_keeps_capacity _ (expireSighting_keeps_capacity _ _ (removeHeld_keeps_capacity c tag s h))
    · exact h
  · exact h

theorem nozzleSetStep_keeps_capacity (r : PlanRecord) : Keeps WithinCapacity (nozzleSetStep r) := by
  intro s h
  unfold nozzleSetStep
  simp only
  split
  · exact h
  · unfold formNozzleSet
    simp only
    split
    · exact h
    · split <;> exact h

theorem confidenceStep_keeps_capacity (r : PlanRecord) : Keeps WithinCapacity (confidenceStep r) := by
  intro s h
  unfold confidenceStep
  simp only
  split
  · exact h
  · exact handOff_keeps_capacity _ (endPlanning s) h

/-! ### Dispatchers and valve buses -/

theorem entryStart_keeps_capacity (g : Nat) : Keeps WithinCapacity (entryStart g) := by
  intro s h
  unfold entryStart
  split
  · rename_i x _
    refine conclude_keeps_capacity _ (grantNext_keeps_capacity _ _ ?_)
    refine h.of_queues (judgeStart_fit g x s h.parts.1) ?_ ?_ <;> rw [judgeStart_frame]
  · exact h

theorem entryEnd_keeps_capacity (g : Nat) : Keeps WithinCapacity (entryEnd g) := by
  intro s h
  unfold entryEnd
  split
  · rename_i e _
    refine conclude_keeps_capacity _ (grantNext_keeps_capacity _ _ ?_)
    refine h.of_queues (endEntry_fit g e s h.parts.1) ?_ ?_ <;> rw [endEntry_frame]
  · exact h

theorem freeBus_keeps_capacity (c : Chute) : Keeps WithinCapacity (freeBus c) :=
  fun s h => grantNext_keeps_capacity c (s.setBus c _) h

theorem nozzleEffect_keeps_capacity (t : Transaction) (result : LastResult) (m : Nat) :
    Keeps WithinCapacity (nozzleEffect t result m) := by
  intro s h
  refine h.of_queues (nozzleEffect_fit t result m s h.parts.1) ?_ ?_ <;> rw [nozzleEffect_frame]

theorem dispatchEffect_keeps_capacity (t : Transaction) (result : LastResult) :
    Keeps WithinCapacity (dispatchEffect t result) := by
  intro s h
  refine h.of_queues (dispatchEffect_fit t result s h.parts.1) ?_ ?_ <;> rw [dispatchEffect_frame]

theorem completeTransaction_keeps_capacity (c : Chute) (t : Transaction) (result : LastResult) (m : Nat) :
    Keeps WithinCapacity (completeTransaction c t result m) := by
  intro s h
  refine conclude_keeps_capacity _ (freeBus_keeps_capacity _ _ (dispatchEffect_keeps_capacity _ _ _
    (nozzleEffect_keeps_capacity _ _ _ _ ?_)))
  split <;> exact h

theorem closeAllSendEnds_keeps_capacity (c : Chute) (t : Transaction) :
    Keeps WithinCapacity (closeAllSendEnds c t) := by
  intro s h
  unfold closeAllSendEnds
  split
  · exact h
  · refine conclude_keeps_capacity _ (freeBus_keeps_capacity _ _ ?_)
    split <;> exact h

theorem commandSent_keeps_capacity (c : Chute) : Keeps WithinCapacity (commandSent c) := by
  intro s h
  unfold commandSent
  simp only
  split
  · split <;> exact h
  · exact h

theorem replyWaitExpiry_keeps_capacity (c : Chute) : Keeps WithinCapacity (replyWaitExpiry c) := by
  intro s h
  have hretry : ∀ t, WithinCapacity (if t.retry then completeTransaction c t .noReply 0 s else retry c t s) := by
    intro t
    split
    · exact completeTransaction_keeps_capacity c t _ _ s h
    · exact h
  unfold replyWaitExpiry
  split
  · exact h
  · split
    · exact h
    · split
      · split
        · exact closeAllSendEnds_keeps_capacity c _ s h
        · exact hretry _
        · exact hretry _
      · exact h

theorem valveReply_keeps_capacity (c : Chute) (lane : Lane) (bytes : List Byte) :
    Keeps WithinCapacity (valveReply c lane bytes) := by
  intro s h
  unfold valveReply
  split
  · split
    · split
      · exact closeAllSendEnds_keeps_capacity c _ s h
      · exact completeTransaction_keeps_capacity c _ _ _ s h
      · exact completeTransaction_keeps_capacity c _ _ _ s h
    · exact h
  · exact h

/-! ### Line clock, inputs and purge -/

theorem lsyncPulse_keeps_capacity : Keeps WithinCapacity lsyncPulse := by
  intro s h
  have hsettle : ∀ n t, WithinCapacity t → WithinCapacity (judgeSettle n t) := by
    intro n t ht
    unfold judgeSettle
    split
    · exact ht
    · split_ifs <;> exact ht
  unfold lsyncPulse
  simp only
  split
  · exact h
  · refine hsettle _ _ ?_
    split <;> exact h

theorem airlowAssertion_keeps_capacity : Keeps WithinCapacity airlowAssertion := by
  intro s h
  unfold airlowAssertion
  split <;> exact h

theorem purgeOffer_keeps_capacity (width n : Nat) (c : Chute) : Keeps WithinCapacity (purgeOffer width n c) := by
  intro s h
  refine h.of_queues (purgeOffer_fit width n c s h.parts.1) ?_ ?_ <;> rw [purgeOffer_frame]

theorem makeTurn_keeps_capacity (p : Purge) : Keeps WithinCapacity (makeTurn p) := by
  intro s h
  unfold makeTurn
  simp only
  exact conclude_keeps_capacity _ (withCtl_capacity (purgeOffer_keeps_capacity _ _ 3 _
    (purgeOffer_keeps_capacity _ _ 2 _ (purgeOffer_keeps_capacity _ _ 1 _ (purgeOffer_keeps_capacity _ _ 0 s h)))) _)

theorem purgeTurn_keeps_capacity : Keeps WithinCapacity purgeTurn := by
  intro s h
  unfold purgeTurn
  split
  · split
    · exact makeTurn_keeps_capacity _ s h
    · exact h
  · exact h

/-- Every event of the part and of its inputs keeps the capacities. -/
theorem events_keep_capacity : EventsKeep WithinCapacity where
  heldInReset _ _ := .of_empty rfl rfl rfl
  coldResetEnd := coldResetEnd_keeps_capacity
  lsyncPulse := lsyncPulse_keeps_capacity
  lsyncLow _ h := h
  recordByte := recordByte_keeps_capacity
  recordGap := recordGap_keeps_capacity
  collecting := setRecordRx_keeps_capacity (Nat.zero_le _)
  plannerTake := plannerTake_keeps_capacity
  endWindDown := endWindDown_keeps_capacity
  ageStep r s _ h := by
    unfold ageStep
    simp only
    split <;> exact h
  bankStep _ _ _ h := h
  bandStep r s _ h := by
    unfold bandStep
    simp only
    split <;> exact h
  nozzleSetStep r s _ := nozzleSetStep_keeps_capacity r s
  sizeBandStep _ _ _ h := h
  widthStep r s _ h := by
    unfold widthStep
    simp only
    split <;> exact h
  flightStep _ _ _ h := h
  seenTimeStep _ _ _ h := h
  perNozzleTimesStep _ _ _ h := h
  leadStep r s _ h := by
    unfold leadStep
    simp only
    split <;> exact h
  confidenceStep r s _ := confidenceStep_keeps_capacity r s
  placement r s _ h := placeAndCount_keeps_capacity _ _ _ _ (endPlanning s) h
  deadlineExpiry := deadlineExpiry_keeps_capacity
  entryStart := entryStart_keeps_capacity
  entryEnd := entryEnd_keeps_capacity
  grant c s h := conclude_keeps_capacity _ (grantNext_keeps_capacity c s h)
  commandSent := commandSent_keeps_capacity
  replyWaitExpiry := replyWaitExpiry_keeps_capacity
  valveReply := valveReply_keeps_capacity
  estopAssertion := estopAssertion_keeps_capacity
  estopRelease _ h := h
  airlowAssertion := airlowAssertion_keeps_capacity
  airlowRelease _ h := h
  purgeTurn := purgeTurn_keeps_capacity
  concludePurge := concludePurge_keeps_capacity
  windDownLimitExpiry := windDownLimitExpiry_keeps_capacity
  warmReset s _ := warmReset_withinCapacity s
  concludeDry := concludeDry_keeps_capacity
  replyTurnaroundEnd s h := by
    unfold replyTurnaroundEnd
    split
    · split <;> exact h
    · exact h
  replySent s h := by
    unfold replySent
    split <;> exact h

/-! ### Commands -/

theorem linkBlind_capacity : LinkBlind WithinCapacity where
  setFrameRx _ _ h := h
  controlError _ _ h := h
  giveReply _ _ _ h := h

theorem leaveWork_keeps_capacity (o : Origin) :
    Keeps WithinCapacity fun s => enterState .standby (abandonOrigin o s) := fun s h =>
  enterState_keeps_capacity .standby _ (h.of_queues (abandonOrigin_fit o s h.parts.1) rfl rfl)

theorem standbyFromRun_keeps_capacity : Keeps WithinCapacity standbyFromRun := fun s h =>
  leaveWork_keeps_capacity _ _ (emptyRings_keeps_capacity _ (emptyHeld_keeps_capacity _ (emptyIntake_keeps_capacity _
    (abandonPlanning_keeps_capacity s h))))

theorem standbyFromPurge_keeps_capacity : Keeps WithinCapacity standbyFromPurge := fun _ h =>
  leaveWork_keeps_capacity _ _ (withCtl_capacity h _)

theorem goStandby_keeps_capacity (p : List Byte) : KeepsCmd WithinCapacity (cmdGoStandby p) := by
  intro s h
  have ht := takeOwedReset_keeps_capacity s h
  unfold cmdGoStandby
  split
  · simp only
    split
    · exact ht
    · exact standbyFromRun_keeps_capacity (closeWindow (takeOwedReset s)) ht
    · exact standbyFromPurge_keeps_capacity (closeWindow (takeOwedReset s)) ht
    · exact keeps_ite ht (enterState_keeps_capacity .standby (closeWindow (takeOwedReset s)) ht)
    · exact ht
  · exact h

theorem goRun_keeps_capacity (p : List Byte) : KeepsCmd WithinCapacity (cmdGoRun p) := by
  intro s h
  have ht := takeOwedReset_keeps_capacity s h
  unfold cmdGoRun
  split
  · exact keeps_ite ht <| keeps_ite ht <| keeps_ite ht <| keeps_ite ht <| keeps_ite ht <|
      enterState_keeps_capacity .run (closeWindow (takeOwedReset s)) ht
  · exact h

theorem startPurge_keeps_capacity (rounds width spacing : Nat) :
    Keeps WithinCapacity (startPurge rounds width spacing) := by
  intro s h
  unfold startPurge
  simp only
  refine makeTurn_keeps_capacity _ _ (enterState_keeps_capacity .purge _ ?_)
  exact h

theorem purge_keeps_capacity (p : List Byte) : KeepsCmd WithinCapacity (cmdPurge p) := by
  intro s h
  have ht := takeOwedReset_keeps_capacity s h
  unfold cmdPurge
  split
  · refine keeps_ite ht (keeps_ite ht ?_)
    simp only
    exact startPurge_keeps_capacity _ _ _ _ ht
  · exact h

theorem restart_keeps_capacity (p : List Byte) : KeepsCmd WithinCapacity (cmdRestart p) := by
  intro s h
  have ht := takeOwedReset_keeps_capacity s h
  have hstart : WithinCapacity (startWindDown (takeOwedReset s)) :=
    enterState_keeps_capacity .windDown (closeWindow { takeOwedReset s with ctl := _ }) ht
  unfold cmdRestart
  split
  · exact keeps_ite ht (endWindDown_keeps_capacity _ hstart)
  · exact h

theorem clearCold_keeps_capacity (p : List Byte) : KeepsCmd WithinCapacity (cmdClearCold p) := by
  intro s h
  unfold cmdClearCold
  split
  · exact takeOwedReset_keeps_capacity s h
  · exact h

theorem dryOn_keeps_capacity (p : List Byte) : KeepsCmd WithinCapacity (cmdDryOn p) := by
  intro s h
  have ht := takeOwedReset_keeps_capacity s h
  unfold cmdDryOn dryOn
  split
  · refine keeps_ite ?_ ht
    show WithinCapacity (ite _ _ _)
    split
    · exact ht
    · exact concludeDry_keeps_capacity { closeWindow (takeOwedReset s) with ctl := _ } ht
  · exact h

theorem dryOff_keeps_capacity (p : List Byte) : KeepsCmd WithinCapacity (cmdDryOff p) := by
  intro s h
  have ht := takeOwedReset_keeps_capacity s h
  unfold cmdDryOff
  split
  · exact keeps_ite ht ht
  · exact h

theorem abandonWaiting_keeps_capacity (g : Nat) : Keeps WithinCapacity (abandonWaiting g) :=
  fun s h => h.of_queues (abandonWaiting_fit g s h.parts.1) rfl rfl

theorem writeNozzle_keeps_capacity (g : Nat) (f : NozzleFields) : Keeps WithinCapacity (writeNozzle g f) := by
  intro s h
  have hw : ∀ r, WithinCapacity (closeWindow (s.setNozzle g r)) := fun _ => h
  unfold writeNozzle
  simp only
  split
  · exact conclude_keeps_capacity _ (abandonWaiting_keeps_capacity g _ (hw _))
  · exact h

theorem nozzleWrite_keeps_capacity (p : List Byte) : KeepsCmd WithinCapacity (cmdNozzleWrite p) := by
  intro s h
  unfold cmdNozzleWrite
  split
  · split
    · exact h
    · exact keeps_ite h <| keeps_ite h <| keeps_ite h <| keeps_ite h <| writeNozzle_keeps_capacity _ _ s h
  · exact h

theorem test_keeps_capacity (p : List Byte) : KeepsCmd WithinCapacity (cmdTest p) := by
  intro s h
  have hoffer : ∀ g c e, WithinCapacity (offer g c e 0 .test (closeWindow s)).1 := by
    intro g c e
    refine h.of_queues (offer_fit g c e 0 .test (closeWindow s) h.parts.1) ?_ ?_ <;> rw [offer_frame] <;> rfl
  unfold cmdTest
  split
  · exact keeps_ite h <| keeps_ite h <| keeps_ite h <| keeps_ite h <| hoffer _ _ _
  · exact h

theorem setNumeric_keeps_capacity {id chute : Byte} {allowed : State → Bool} {lo hi : Nat}
    {store : Nat → State → State} {value : Nat} (hstore : ∀ v, Keeps WithinCapacity (store v)) :
    KeepsCmd WithinCapacity (setNumeric id chute allowed lo hi store value) := by
  intro s h
  exact keeps_ite (hstore _ s h) h

theorem withValue_keeps_capacity {f : Byte → Nat → State → State × Answer}
    (hf : ∀ c v, KeepsCmd WithinCapacity (f c v)) (rest : List Byte) : KeepsCmd WithinCapacity (withValue f rest) := by
  intro s h
  unfold withValue
  split
  · exact hf _ _ s h
  · exact h

theorem updateSettings_keeps_capacity (f : Settings → Settings) : Keeps WithinCapacity (updateSettings f) :=
  fun _ h => h

/-- The settings have no part in the capacities. -/
theorem setSetting_keeps_capacity {id : Byte} {allowed : State → Bool} {lo hi : Nat} {f : Nat → Settings → Settings}
    (rest : List Byte) : KeepsCmd WithinCapacity
      (withValue (fun _ => setNumeric id 0 allowed lo hi fun v => updateSettings (f v)) rest) :=
  withValue_keeps_capacity (fun _ _ => setNumeric_keeps_capacity fun _ => updateSettings_keeps_capacity _) rest

/-- Every command keeps the capacities. -/
theorem commands_keep_capacity : CommandsKeep WithinCapacity where
  poll p s h := by
    unfold cmdPoll
    split
    · split <;> exact h
    · exact h
  notices p s h := by
    unfold cmdNotices
    split <;> exact h
  rearm p s h := by
    unfold cmdRearm
    split <;> exact h
  goRun := goRun_keeps_capacity
  goStandby := goStandby_keeps_capacity
  purge := purge_keeps_capacity
  restart := restart_keeps_capacity
  clearCold := clearCold_keeps_capacity
  dryOn := dryOn_keeps_capacity
  dryOff := dryOff_keeps_capacity
  window p s h := by
    have hopen : ∀ w, WithinCapacity (openWindow w s) := by
      intro w
      unfold openWindow
      simp only
      split <;> exact h
    unfold cmdWindow
    split
    · split
      · exact h
      · exact keeps_ite h <| keeps_ite h <| keeps_ite h <| hopen _
    · exact h
  put p s h := by
    have hput : ∀ w e, WithinCapacity (putEntry w e s) := by
      intro w e
      unfold putEntry
      simp only
      split <;> exact h
    unfold cmdPut
    refine keeps_ite h ?_
    split
    · exact h
    · refine keeps_ite h ?_
      split
      · exact h
      · exact hput _ _
  get p s h := by
    unfold cmdGet
    split
    · split
      · exact h
      · exact keeps_ite h h
    · exact h
  requestSwap ls s h := by
    unfold requestSwap
    exact keeps_ite h <| keeps_ite h <| keeps_ite h h
  swapCancel p s h := by
    unfold cmdSwapCancel
    split
    · exact keeps_ite h h
    · exact h
  nozzleRead p s h := by
    unfold cmdNozzleRead
    split
    · exact keeps_ite h h
    · exact h
  nozzleWrite := nozzleWrite_keeps_capacity
  test := test_keeps_capacity
  lane p s h := by
    unfold cmdLane
    split
    · split <;> exact h
    · exact h
  query p s h := by
    unfold cmdQuery
    split
    · split <;> exact h
    · exact h
  tally p s h := by
    have hclear : ∀ n, WithinCapacity (clearTally n s) := by
      intro n
      cases n <;> exact h
    unfold cmdTally
    split
    · refine keeps_ite h ?_
      split
      · exact h
      · show WithinCapacity (closeWindow (ite _ _ _))
        split
        · exact hclear _
        · exact h
    · exact h
  setAirTrim := setSetting_keeps_capacity
  setLinePeriod := withValue_keeps_capacity fun _ _ => setNumeric_keeps_capacity fun _ _ h => h
  setMaxAge := setSetting_keeps_capacity
  setLeadMin := setSetting_keeps_capacity
  setWidthMin rest s := setSetting_keeps_capacity rest s
  setWidthMax rest s := setSetting_keeps_capacity rest s
  setWidthCap rest s := setSetting_keeps_capacity rest s
  setValveGap := withValue_keeps_capacity fun c v s h => by
    show WithinCapacity (Prod.fst (match chuteByte c with | none => _ | some _ => _))
    split
    · exact h
    · exact setNumeric_keeps_capacity (fun _ => updateSettings_keeps_capacity _) s h
  setReplyWait := setSetting_keeps_capacity
  setMissLimit := setSetting_keeps_capacity
  setWindDownLimit := setSetting_keeps_capacity
  setGroupAddress := withValue_keeps_capacity fun _ _ _ h => keeps_ite h h
  setNoticeMask := withValue_keeps_capacity fun _ _ _ h => h

/-- Settles O55: what has a capacity is changed by few operations, each of which looks at the room first; every event
and every command comes down to them. -/
theorem stepKeepsWithinCapacity : Obligations.StepKeepsWithinCapacity := fun _ _ hs h =>
  step_keeps (fun _ _ h => h) (fun _ h => h)
    (exec_keeps linkBlind_capacity commands_keep_capacity events_keep_capacity) hs h

end Sys2Proof.Machine
end

section
/-! The line clock and the table banks at a pulse (O4, O5): R3 to R7, R32 to R34. -/

namespace Sys2Proof.Machine

/-! ### The pulse and its end -/

theorem exec_lsyncPulse {s : State} (h : Awake s) :
    exec .lsyncPulse s = .next (if due s.clk.nextPulse s.clk.now then lsyncPulse s else s) := live_awake s h

/-- The line clock at a pulse that begins the next line (R3, R4). -/
theorem pulse_of_no_restart {c : LineClock} (h : c.pendingRestart = false) : c.pulse = { c with
    line := c.line + 1
    lineStart := c.now
    nextPulse := c.now + BitVec.ofNat 32 c.period
    lsync := .high (c.now + if c.line + 1 = 0 then 20 else 4) } := by
  have hn : nextLine c = c.line + 1 := by simp [nextLine, h]
  unfold LineClock.pulse pulseLengthOf
  simp only [hn, h]
  split <;> rfl

/-- The line clock at the pulse of a LINE PERIOD restart (R7). -/
theorem pulse_of_restart {c : LineClock} (h : c.pendingRestart = true) : c.pulse = { c with
    line := 0
    lineStart := c.now
    nextPulse := c.now + BitVec.ofNat 32 c.period
    pendingRestart := false
    lsync := .high (c.now + 20) } := by
  have hn : nextLine c = 0 := by simp [nextLine, h]
  unfold LineClock.pulse
  simp only [hn]
  rfl

theorem lsyncPulse_of_no_restart {s : State} (h : s.clk.pendingRestart = false) :
    lsyncPulse s = bankLine (s.clk.line + 1) { s with clk := s.clk.pulse } := by
  simp [lsyncPulse, nextLine, h]

theorem lsyncPulse_of_restart {s : State} (h : s.clk.pendingRestart = true) :
    lsyncPulse s = restartBanks { s with clk := s.clk.pulse } := by
  simp [lsyncPulse, h]

/-! ### The banks at a new line -/

/-- A settle is judged by the age of its line alone, the bank in use at the planner holding it open (R33). -/
theorem judgeSettle_eq {n ls : Line} {s : State} (h : s.banks.lastSwap = some ls) : judgeSettle n s = { s with
    banks :=
      if s.settings.maxAge < (n - ls).toNat then
        if planningOnStaging s then { s.banks with settleHeld := true }
        else { s.banks with lastSwap := none, settleHeld := false }
      else s.banks } := by
  unfold judgeSettle ageOf
  rw [h]
  simp only
  split
  · split <;> rfl
  · rfl

theorem judgeSettle_of_no_settle {n : Line} {s : State} (h : s.banks.lastSwap = none) : judgeSettle n s = s := by
  simp [judgeSettle, h]

/-- The settle that a swap begins is of age 0 at its own pulse, so that it goes on (R32, R33). -/
theorem bankLine_of_swap {n : Line} {s : State} (h : s.banks.pendingSwap = some n) :
    bankLine n s = executeSwap n s := by
  have hlast : (executeSwap n s).banks.lastSwap = some n := rfl
  unfold bankLine
  rw [if_pos h, judgeSettle_eq hlast, if_neg]
  simp

theorem bankLine_of_no_swap {n : Line} {s : State} (h : s.banks.pendingSwap ≠ some n) :
    bankLine n s = judgeSettle n s := by
  simp [bankLine, h]

/-- With no swap pending and no settle running a new line is nothing to the banks. -/
theorem bankLine_of_quiet {n : Line} {s : State} (hp : s.banks.pendingSwap = none) (hl : s.banks.lastSwap = none) :
    bankLine n s = s := by
  rw [bankLine_of_no_swap (by simp [hp]), judgeSettle_of_no_settle hl]

/-- What the new line leaves alone: the line clock is none of the banks' (R5). -/
theorem bankLine_clk (n : Line) (s : State) : (bankLine n s).clk = s.clk := by
  unfold bankLine judgeSettle
  split
  · split_ifs <;> rfl
  · split_ifs <;> rfl

/-! ### The statements -/

theorem pulse_begins_next_line {s : State} (hs : Awake s) (hd : due s.clk.nextPulse s.clk.now = true)
    (hr : s.clk.pendingRestart = false) :
    exec .lsyncPulse s = .next (bankLine (s.clk.line + 1) { s with clk := s.clk.pulse }) := by
  rw [exec_lsyncPulse hs, if_pos hd, lsyncPulse_of_no_restart hr]

/-- The end of a pulse in progress (R4). -/
theorem exec_lsyncPulseEnd {s : State} (hs : Awake s) {rise stop : Time}
    (h : s.clk.lsync = .high stop ∨ s.clk.lsync = .cut rise stop) :
    exec .lsyncPulseEnd s = .next
      (if due stop s.clk.now then { s with clk := { s.clk with lsync := .low } } else s) := by
  show execLsyncPulseEnd s = _
  unfold execLsyncPulseEnd
  rw [live_awake s hs]
  obtain h | h := h <;> simp [h]

theorem exec_lsyncPulseEnd_of_low {s : State} (hs : Awake s) (h : s.clk.lsync = .low) :
    exec .lsyncPulseEnd s = .next s := by
  show execLsyncPulseEnd s = _
  unfold execLsyncPulseEnd
  rw [live_awake s hs]
  simp [h]

/-- Settles O4: at a pulse that begins the next line the banks leave the line clock alone, and with no swap pending and
no settle running they do nothing. -/
theorem pulseBeginsTheNextLine : Obligations.PulseBeginsTheNextLine := by
  intro s hs
  refine ⟨fun hd hr => ⟨_, pulse_begins_next_line hs hd hr, ?_, fun hp hl => ?_⟩, fun hd => ?_,
    fun hlow => ⟨?_, exec_lsyncPulseEnd_of_low hs hlow⟩, fun rise stop h => ⟨?_, exec_lsyncPulseEnd hs h⟩⟩
  · rw [bankLine_clk]
    exact pulse_of_no_restart hr
  · rw [bankLine_of_quiet (s := { s with clk := s.clk.pulse }) hp hl]
  · rw [exec_lsyncPulse hs, if_neg (by simp [hd])]
  · simp [LineClock.lsyncHigh, hlow]
  · obtain h | h := h <;> simp [LineClock.lsyncHigh, h]

/-- Settles O5: the three kinds of pulse, by what the banks do with the line each begins. -/
theorem swapSettleAndRestartAtAPulse : Obligations.SwapSettleAndRestartAtAPulse := by
  intro s hs hd
  refine ⟨fun hr hp => ⟨_, pulse_begins_next_line hs hd hr, ?_⟩,
    fun hr hp ls hl => ⟨_, pulse_begins_next_line hs hd hr, ?_⟩, fun hr => ?_⟩
  · rw [bankLine_of_swap (s := { s with clk := s.clk.pulse }) hp]
    exact ⟨rfl, rfl, rfl, rfl⟩
  · rw [(bankLine_of_no_swap (s := { s with clk := s.clk.pulse }) hp).trans (judgeSettle_eq hl)]
    exact ⟨rfl, rfl⟩
  · rw [exec_lsyncPulse hs, if_pos hd, lsyncPulse_of_restart hr, pulse_of_restart hr]
    rfl

end Sys2Proof.Machine
end

section
/-! The sighting port (O6, O8): R10 to R17, R185, R187. -/

namespace Sys2Proof.Machine

/-! ### Records as they arrive -/

theorem linkErrorWith_eq (rx : RecordRx) (s : State) : linkErrorWith rx s = linkError (setRecordRx rx s) := rfl

theorem exec_sightingRecord {s : State} (h : Awake s) (bytes : List Byte) :
    exec (.sightingRecord bytes) s = .next (recordBytesIn bytes s) := live_awake s h

theorem exec_verdictRecord {s : State} (h : Awake s) (bytes : List Byte) :
    exec (.verdictRecord bytes) s = .next (recordBytesIn bytes s) := live_awake s h

theorem exec_partialRecordTimeout {s : State} (h : Awake s) (bytes : List Byte) :
    exec (.partialRecordTimeout bytes) s = .next (recordGap (recordBytesIn bytes s)) := by
  show execPartialRecordTimeout bytes s = _
  unfold execPartialRecordTimeout
  exact live_awake s h

theorem exec_resyncIdleTimeout {s : State} (h : Awake s) : exec .resyncIdleTimeout s = .next
    (if s.port.rx = .resyncing then setRecordRx (.collecting []) s else s) := by
  show execResyncIdleTimeout s = _
  unfold execResyncIdleTimeout
  exact live_awake s h

/-- Bytes that do not fill a record are gathered (R10). -/
theorem recordBytesIn_part {bytes gathered : List Byte} {s : State} (hr : s.port.rx = .collecting gathered)
    (hl : gathered.length + bytes.length ≤ 11) :
    recordBytesIn bytes s = setRecordRx (.collecting (gathered ++ bytes)) s := by
  induction bytes generalizing gathered s with
  | nil => simpa [recordBytesIn] using (setRecordRx_self s hr).symm
  | cons b bs ih =>
    have hb : recordByte s b = setRecordRx (.collecting (gathered ++ [b])) s := by
      rw [List.length_cons] at hl
      simp only [recordByte, hr]
      exact if_pos (by simp; omega)
    have hrest := ih (s := setRecordRx (.collecting (gathered ++ [b])) s) rfl (by simp at hl ⊢; omega)
    simp only [recordBytesIn] at hrest ⊢
    rw [List.foldl_cons, hb, hrest, List.append_assoc]
    rfl

/-- A gap after some bytes of a record is a link error (R10, R11). -/
theorem recordGap_of_part {bytes : List Byte} (s : State) (h : bytes ≠ []) :
    recordGap (setRecordRx (.collecting bytes) s) = linkErrorWith (.collecting []) s := by
  cases bytes with
  | nil => exact absurd rfl h
  | cons b bs => rfl

/-- An admission with room, a drop without, and a refusal outside RUN (R13, R14, R17). -/
theorem admitSighting_eq (g : Sighting) (s : State) : admitSighting g s =
    if s.ctl.op = .run then
      if s.port.intake.length < 64 then
        { s with
          port := { s.port with
            intake := s.port.intake ++ [g]
            hold := if 48 ≤ s.port.intake.length + 1 then true
              else if s.port.intake.length + 1 ≤ 16 then false else s.port.hold }
          tally := s.tally.countSighting g.chute g.cls .seen }
      else
        { s with
          tally := s.tally.countChute g.chute .overflow 1
          notices := s.notices.set s.settings.noticeMask .intakeOverflow (some g.chute) }
    else { s with tally := s.tally.countChute g.chute .refused 1 } := by
  have hport : s.port.withIntake (s.port.intake ++ [g]) = { s.port with
      intake := s.port.intake ++ [g]
      hold := if 48 ≤ s.port.intake.length + 1 then true
        else if s.port.intake.length + 1 ≤ 16 then false else s.port.hold } := by
    simp only [SightingPort.withIntake, holdAfter, List.length_append, List.length_singleton]
    rfl
  unfold admitSighting Config.intakeSize
  rw [hport]
  rfl

/-- Settles O6: the twelve bytes are one record, and what it decodes to is admitted, dropped or refused. -/
theorem sightingIsAdmittedDroppedOrRefused : Obligations.SightingIsAdmittedDroppedOrRefused := by
  intro s bytes g hs hr hd
  have hlen : bytes.length = 12 := length_of_decodeRecord (by simp [hd])
  rw [exec_sightingRecord hs, recordBytesIn_whole s hr hlen, completeRecord, hd]
  simp only [setRecordRx_self s hr]
  rw [admitSighting_eq]

/-! ### The layout of a record (12.2) -/

theorem decodeRecord_bad_of_length {bytes : List Byte} (h : bytes.length ≠ 12) : decodeRecord bytes = .bad :=
  by_contra fun hb => h (length_of_decodeRecord hb)

/-- The eight unrolled bits of the CRC-8 are the loop of R187. -/
theorem crc8_eq_loop (bytes : List Byte) : crc8 bytes = bytes.foldl (fun c b =>
    (List.range 8).foldl (fun c _ => if c.msb then (c <<< 1) ^^^ 0x07#8 else c <<< 1) (c ^^^ b)) 0xFF#8 := rfl

theorem recordChute_val (b : Byte) : (recordChute b).val = b.toNat / 64 := by
  have := b.isLt
  simp only [recordChute, Fin.ofNat]
  omega

theorem decodeColumn_eq (c : Nat) : decodeColumn c = min 639 c := Nat.min_comm _ _

/-- The fields of a sighting record (R12, 12.2). -/
theorem decodeSighting_fields (b1 b2 b3 b4 b5 b6 b7 b8 b9 b10 : Byte) :
    let g := decodeSighting b1 b2 b3 b4 b5 b6 b7 b8 b9 b10
    let columns := b5.toNat * 65536 + b6.toNat * 256 + b7.toNat
    let first := min 639 (columns / 16384)
    let last := min 639 (columns / 16 % 1024)
    g.chute.val = b1.toNat / 64 ∧ (g.side = .rear ↔ b1.getLsbD 5 = true) ∧ g.cls = b1.toNat % 16 ∧ g.tag = b2 ∧
      g.stamp.toNat = num16 b3 b4 ∧ g.c0 = min first last ∧ g.c1 = max first last ∧
      g.size = max 1 (num16 b8 b9 % 4096) ∧ g.conf = b10.toNat := by
  have hcolumns : num16 b5 b6 * 256 + b7.toNat = b5.toNat * 65536 + b6.toNat * 256 + b7.toNat := by
    unfold num16
    omega
  have hfirst : (b5.toNat * 65536 + b6.toNat * 256 + b7.toNat) / 16384 % 1024
      = (b5.toNat * 65536 + b6.toNat * 256 + b7.toNat) / 16384 := by
    have h5 := b5.isLt
    have h6 := b6.isLt
    have h7 := b7.isLt
    omega
  refine ⟨recordChute_val b1, ?_, rfl, rfl, ?_, ?_, ?_, rfl, rfl⟩
  · simp only [decodeSighting]
    cases b1.getLsbD 5 <;> simp
  · have h4 := b4.isLt
    simp only [decodeSighting, num16, BitVec.toNat_append, Nat.shiftLeft_eq]
    rw [← Nat.shiftLeft_eq, ← Nat.shiftLeft_add_eq_or_of_lt h4, Nat.shiftLeft_eq]
  all_goals simp only [decodeSighting, decodeColumn_eq, hcolumns, hfirst]

section
variable (b0 b1 b2 b3 b4 b5 b6 b7 b8 b9 b10 b11 : Byte)

/-- A record whose check fails or whose kind is unknown (R11). -/
theorem decodeRecord_bad
    (h : ¬crc8 [b0, b1, b2, b3, b4, b5, b6, b7, b8, b9, b10] = b11 ∨ (b0 ≠ 0x53 ∧ b0 ≠ 0x56)) :
    decodeRecord [b0, b1, b2, b3, b4, b5, b6, b7, b8, b9, b10, b11] = .bad := by
  by_cases hcheck : crc8 [b0, b1, b2, b3, b4, b5, b6, b7, b8, b9, b10] = b11
  · obtain ⟨hs, hv⟩ := h.resolve_left (not_not_intro hcheck)
    simp only [decodeRecord, hcheck, ne_eq, not_true, if_false]
    exact (if_neg hs).trans (if_neg hv)
  · simp only [decodeRecord]
    exact if_pos hcheck

theorem decodeRecord_sighting (hcheck : crc8 [b0, b1, b2, b3, b4, b5, b6, b7, b8, b9, b10] = b11) (hkind : b0 = 0x53) :
    decodeRecord [b0, b1, b2, b3, b4, b5, b6, b7, b8, b9, b10, b11]
      = .sighting (decodeSighting b1 b2 b3 b4 b5 b6 b7 b8 b9 b10) := by
  simp only [decodeRecord, hcheck, ne_eq, not_true, if_false]
  exact if_pos hkind

theorem decodeRecord_verdict (hcheck : crc8 [b0, b1, b2, b3, b4, b5, b6, b7, b8, b9, b10] = b11) (hkind : b0 = 0x56) :
    decodeRecord [b0, b1, b2, b3, b4, b5, b6, b7, b8, b9, b10, b11]
      = if b3 = 1 then .verdict (recordChute b1) b2 true else if b3 = 2 then .verdict (recordChute b1) b2 false
        else .badCode := by
  have hs : b0 ≠ kindSighting := by
    rw [hkind]
    decide
  simp only [decodeRecord, hcheck, ne_eq, not_true, if_false, if_neg hs]
  exact if_pos hkind

end

/-- Settles O8: what becomes of rejected and partial records, and the layout of those that are read. -/
theorem rejectedRecordsAreLinkErrors : Obligations.RejectedRecordsAreLinkErrors := by
  refine ⟨fun s hs => ⟨fun hr => ⟨fun bytes hl hd => ?_, fun bytes hd => ?_, fun bytes h1 h11 => ?_⟩,
    fun hr => ⟨fun bytes => ⟨?_, ?_⟩, ?_⟩, fun hr => ?_⟩, fun bytes => decodeRecord_bad_of_length, crc8_eq_loop, ?_⟩
  · rw [exec_sightingRecord hs, exec_verdictRecord hs, recordBytesIn_whole s hr hl, completeRecord, hd]
    exact ⟨rfl, rfl⟩
  · have hl : bytes.length = 12 := length_of_decodeRecord (by simp [hd])
    rw [exec_verdictRecord hs, recordBytesIn_whole s hr hl, completeRecord, hd]
    rfl
  · have hne : bytes ≠ [] := by
      rintro rfl
      simp at h1
    rw [exec_partialRecordTimeout hs, recordBytesIn_part hr (by simpa using h11), List.nil_append,
      recordGap_of_part s hne]
  · rw [exec_sightingRecord hs, recordBytesIn_resyncing s bytes hr]
  · rw [exec_verdictRecord hs, recordBytesIn_resyncing s bytes hr]
  · rw [exec_resyncIdleTimeout hs, if_pos hr]
    rfl
  · rw [exec_resyncIdleTimeout hs, if_neg hr]
  · intro b0 b1 b2 b3 b4 b5 b6 b7 b8 b9 b10 b11
    refine ⟨decodeRecord_bad _ _ _ _ _ _ _ _ _ _ _ _, fun hg hk => ?_, fun hg hk => ?_⟩
    · exact ⟨_, decodeRecord_sighting _ _ _ _ _ _ _ _ _ _ _ _ hg hk,
        decodeSighting_fields b1 b2 b3 b4 b5 b6 b7 b8 b9 b10⟩
    · exact ⟨recordChute b1, recordChute_val b1, decodeRecord_verdict _ _ _ _ _ _ _ _ _ _ _ _ hg hk⟩

end Sys2Proof.Machine
end

section
/-! The planner's take, its age step and its endings (O9): R17, R18, R33, R38 to R42, R58. -/

namespace Sys2Proof.Machine

/-- An idle planner takes the oldest sighting, and HOLD is reviewed (R17, R18). -/
theorem plannerTake_of_idle {g : Sighting} {rest : List Sighting} {s : State} (hp : s.planner = none)
    (hi : s.port.intake = g :: rest) : plannerTake s = { s with
      port := { s.port with
        intake := rest
        hold := if 48 ≤ rest.length then true else if rest.length ≤ 16 then false else s.port.hold }
      planner := some (PlanRecord.start g) } := by
  unfold plannerTake
  rw [hp, hi]
  rfl

/-- A planner at work takes nothing, and an empty intake gives nothing. -/
theorem plannerTake_of_not_ready {s : State} (h : s.planner ≠ none ∨ s.port.intake = []) : plannerTake s = s := by
  unfold plannerTake
  split
  · simp_all
  · rfl

/-- The command of a step that is not the one to come does nothing (R38, R40). -/
theorem planStep_of_other {step : PlanStep} {f : PlanRecord → State → State} {s : State}
    (h : ∀ r, s.planner = some r → r.next ≠ step) : planStep step f s = s := by
  unfold planStep
  split
  · rename_i r hr
    exact if_neg (h r hr)
  · rfl

theorem planStep_of_next {step : PlanStep} {f : PlanRecord → State → State} {s : State} {r : PlanRecord}
    (hp : s.planner = some r) (hn : r.next = step) : planStep step f s = endWindDown (f r s) := by
  simp [planStep, hp, hn]

theorem live_planStep_of_other {step : PlanStep} {f : PlanRecord → State → State} {s : State} (hs : Awake s)
    (h : ∀ r, s.planner = some r → r.next ≠ step) : live (planStep step f) s = .next s := by
  rw [live_awake s hs, planStep_of_other h]

/-- A sighting too old ends UNTIMELY, any other goes on with its pair and its age (R41). -/
theorem endWindDown_ageStep (r : PlanRecord) (s : State) : endWindDown (ageStep r s) =
    if s.settings.maxAge < (s.clk.line - r.sighting.stamp).toNat then endWindDown (endWith r.sighting .untimely s)
    else setPlan { r with
      pairLine := s.clk.line
      pairTime := s.clk.lineStart
      age := (s.clk.line - r.sighting.stamp).toNat
      next := .bank } s := by
  unfold ageStep ageOf
  simp only
  split
  · rfl
  · exact endWindDown_of_planning _ rfl

/-- Settles O9: the take, the steps out of turn, the age step, and what an ending does. -/
theorem plannerTakesTheOldestAndAgesIt : Obligations.PlannerTakesTheOldestAndAgesIt := by
  intro s hs
  refine ⟨fun g rest hp hi => ?_, fun g => ⟨rfl, rfl⟩, fun h => ?_, fun x hx hne => ?_, fun r hp hn => ?_, rfl,
    fun g outcome => rfl⟩
  · exact (live_awake s hs).trans (congrArg _ (plannerTake_of_idle hp hi))
  · exact (live_awake s hs).trans (congrArg _ (plannerTake_of_not_ready h))
  · simp only [List.mem_cons, List.not_mem_nil, or_false] at hx
    rcases hx with rfl | rfl | rfl | rfl | rfl | rfl | rfl | rfl | rfl | rfl | rfl | rfl
    all_goals exact live_planStep_of_other hs hne
  · refine (live_awake s hs).trans (congrArg _ ?_)
    rw [planStep_of_next hp hn, endWindDown_ageStep]
    rfl

end Sys2Proof.Machine
end

section
/-! The emergency stop (O28): what giving up the pending sightings counts, and what is left of the part (R16, R19, R75,
R91, R106, R110, R114, R116, R123, R156, R162). -/

namespace Sys2Proof.Machine

/-! ### Giving up the pending sightings -/

/-- The tally table once the sightings in flight, in the intake and held are counted ABANDONED (R16, R19, R91). -/
def abandonedTally (s : State) (t : TallyTable) : TallyTable :=
  s.verdicts.held.foldl (fun t e => t.countSighting e.chute e.cls .abandoned)
    (s.port.intake.foldl (fun t g => t.countSighting g.chute g.cls .abandoned)
      ((inFlightSighting s).foldl (fun t g => t.countSighting g.chute g.cls .abandoned) t))

/-- The banks once a planner at work has released its own: a settle it held open is over (R33, R42). -/
def releasedBanks (s : State) : TableBanks :=
  { s.banks with
    lastSwap := if s.planner.isSome && s.banks.settleHeld then none else s.banks.lastSwap
    settleHeld := s.banks.settleHeld && s.planner.isNone }

theorem abandonPlanning_eq (s : State) : abandonPlanning s = { s with
    planner := none
    banks := releasedBanks s
    tally := (inFlightSighting s).foldl (fun t g => t.countSighting g.chute g.cls .abandoned) s.tally } := by
  unfold abandonPlanning releasedBanks inFlightSighting
  cases hp : s.planner with
  | none =>
    cases s
    obtain rfl : _ = none := hp
    simp
  | some r => simp [endWith, endPlanning, countSighting]

/-- Giving up every pending sighting empties the planner, the intake and the held list and counts what was there. -/
theorem giveUpPending_eq (s : State) : emptyHeld (emptyIntake (abandonPlanning s)) = { s with
    planner := none
    port := { s.port with intake := [], hold := false }
    verdicts := { s.verdicts with held := [] }
    banks := releasedBanks s
    tally := abandonedTally s s.tally } := by
  rw [abandonPlanning_eq]
  rfl

/-- Nothing but sighting records is counted when sightings are given up. -/
theorem abandonedTally_chutes (s : State) (t : TallyTable) : (abandonedTally s t).chutes = t.chutes := by
  unfold abandonedTally
  rw [(sighting_foldl_abandoned HeldEntry.chute HeldEntry.cls _ _).1,
    (sighting_foldl_abandoned Sighting.chute Sighting.cls _ _).1,
    (sighting_foldl_abandoned Sighting.chute Sighting.cls _ _).1]

/-- Each sighting record takes its pending sightings as ABANDONED (R180, R182). -/
theorem abandonedTally_sighting {s : State} (hc : ClassesInRange s) (t : TallyTable) (h : Chute) {k : Nat}
    (hk : k < 16) :
    (abandonedTally s t).sighting h k = (t.sighting h k).abandon (pendingCount s h k) := by
  obtain ⟨hintake, hplanner, hheld⟩ := hc
  have hflight : ∀ g ∈ inFlightSighting s, g.cls < 16 := by
    intro g hg
    simp only [inFlightSighting, Option.mem_toList, Option.map_eq_some_iff] at hg
    obtain ⟨r, hr, rfl⟩ := hg
    exact hplanner r hr
  unfold abandonedTally
  rw [(sighting_foldl_abandoned HeldEntry.chute HeldEntry.cls _ _).2.2 hheld h k hk,
    (sighting_foldl_abandoned Sighting.chute Sighting.cls _ _).2.2 hintake h k hk,
    (sighting_foldl_abandoned Sighting.chute Sighting.cls _ _).2.2 hflight h k hk,
    SightingTally.abandon_abandon, SightingTally.abandon_abandon]
  congr 1
  unfold pendingCount Sighting.isOf HeldEntry.isOf
  omega

/-! ### The emergency stop -/

/-- A bus at an emergency stop: no request waits, and the CLOSE ALL is sent where nothing is in flight (R114, R116). -/
def BusController.stopped (b : BusController) : BusController :=
  BusController.closeAllGranted { b with closeAll := true, requests := [] }

theorem stopped_eq (b : BusController) : b.stopped =
    let b' := { b with requests := [] }
    match b.inFlight with
    | some _ => { b' with closeAll := true }
    | none => { b' with
      closeAll := false
      tag := b'.tag + 1
      inFlight := some ⟨.closeAll, 0, 0, .a, b'.tag, false, none, false⟩ } := by
  unfold BusController.stopped BusController.closeAllGranted
  cases hb : b.inFlight <;> simp

/-- The queues emptied and a CLOSE ALL requested and granted (R75, R110, R114, R116, R123). -/
theorem grantAll_emptyQueues_eq (s : State) : grantAll (emptyQueues (requestCloseAll s)) = { s with
    firing := { s.firing with queues := [], openCount := PerChute.const 0 }
    bus := s.bus.map fun _ b => b.stopped
    tally := countAbandonedWhere (fun e => e.phase != .closing) s } := by
  rw [grantAll_of_closeAll _ fun h => by simp [State.busOf, emptyQueues, requestCloseAll]]
  rfl

/-- With every queue empty no WET firing record is left, so that going dry is over (R106, R110). -/
theorem concludeDry_of_no_queues {s : State} (h : s.firing.queues = []) : concludeDry s = { s with
    ctl := { s.ctl with dry := s.ctl.dry || s.ctl.goingDry, goingDry := false } } := by
  have hw : anyWet s = false := by simp [anyWet, h]
  rw [concludeDry_eq, hw]
  cases hg : s.ctl.goingDry with
  | true => simp
  | false => rw [if_neg (by simp), Bool.or_false, ← hg]

theorem emergencyStop_eq (s : State) : emergencyStop s = { s with
    ctl := { s.ctl with
      op := .halt, purge := none, windDown := none
      resetDue := s.ctl.resetDue || s.ctl.op == .windDown
      dry := s.ctl.dry || s.ctl.goingDry, goingDry := false }
    firing := { s.firing with queues := [], openCount := PerChute.const 0 }
    bus := s.bus.map fun _ b => b.stopped
    planner := none
    port := { s.port with intake := [], hold := false }
    verdicts := ⟨[], PerChute.const []⟩
    link := { s.link with window := if s.ctl.op = .halt then s.link.window else none }
    notices := s.notices.set s.settings.noticeMask .estop none
    tally := abandonedTally s (countAbandonedWhere (fun e => e.phase != .closing) s)
    banks := releasedBanks s } := by
  unfold emergencyStop
  rw [grantAll_emptyQueues_eq, giveUpPending_eq]
  simp only
  rw [concludeDry_of_no_queues rfl, enterState_eq]
  rfl

/-- An assertion of a released ESTOP takes an owed reset first (R156, R162). -/
theorem estopAssertion_of_released {s : State} (h : s.ctl.estop = false) : estopAssertion s =
    emergencyStop { takeOwedReset s with ctl := { (takeOwedReset s).ctl with estop := true } } := by
  simp [estopAssertion, h]

/-- Settles O28: the stop's own equation, with what it counts. -/
theorem emergencyStopEmptiesThePart : Obligations.EmergencyStopEmptiesThePart := by
  intro s hs he hr
  have hexec : exec .estopAssertion s = .next (emergencyStop { s with ctl := { s.ctl with estop := true } }) := by
    refine (live_awake s hs).trans (congrArg _ ?_)
    rw [estopAssertion_of_released he, takeOwedReset_of_not_due s hr]
  refine ⟨_, hexec, ?_⟩
  rw [emergencyStop_eq]
  refine ⟨?_, rfl, fun h => ?_, rfl, rfl, rfl, rfl, rfl, fun h => ?_, fun hc h k hk => ?_, rfl, rfl⟩
  · simp only [hr, Bool.false_or]
    rfl
  · exact (PerChute.get_map _ _ h).trans (stopped_eq _)
  · simp only [abandonedTally_chutes]
    exact PerChute.get_map _ _ h
  · exact abandonedTally_sighting (s := { s with ctl := _ }) hc _ h hk

end Sys2Proof.Machine
end

section
/-! The warm reset (O32): the values it takes, and when it comes (R1, R6, R16, R35, R112, R124, R159, R161, R162). -/

namespace Sys2Proof.Machine

/-! ### The values -/

/-- The notice table that a warm reset leaves (R161, R174, R156). -/
def warmNotices (s : State) : NoticeTable :=
  let n := NoticeTable.cleared.set s.settings.noticeMask .restarted none
  if s.ctl.estop then n.set s.settings.noticeMask .estop none else n

theorem warmReset_eq (s : State) : warmReset s = { s with
    clk := { LineClock.restarted s.clk.period with lsync := s.clk.lsync.warm }
    port := ⟨.collecting [], [], false⟩
    banks := { s.banks with pendingSwap := none, lastSwap := none, settleHeld := false }
    planner := none
    verdicts := ⟨[], PerChute.const []⟩
    firing := { s.firing with queues := [], openCount := PerChute.const 0 }
    bus := s.bus.map fun _ b => (b.warm s.clk.now).closeAllGranted
    ctl := { s.ctl with
      op := if s.ctl.estop then .halt else .standby
      dry := false, goingDry := false, windDown := none, purge := none, resetDue := false }
    link := { s.link with window := none, rx := .hunting, tx := s.link.tx.warm s.clk.now }
    notices := warmNotices s
    tally := .zero } := by
  unfold warmReset warmNotices
  cases s.ctl.estop
  all_goals
    rw [grantAll_of_closeAll _ fun h => by simp [State.busOf, setNotice, BusController.warm]]
    rfl

/-- A bus after a warm reset: its transaction goes on with its wait re-based, or its CLOSE ALL is sent (R112, R124). -/
theorem warm_closeAllGranted (b : BusController) (now : Time) : (b.warm now).closeAllGranted =
    let b' := { b with requests := [] }
    match b.inFlight with
    | some x => { b' with
      closeAll := true
      inFlight := some { x with waitEnd := x.waitEnd.map fun stop => stop - now } }
    | none => { b' with
      closeAll := false
      tag := b'.tag + 1
      inFlight := some ⟨.closeAll, 0, 0, .a, b'.tag, false, none, false⟩ } := by
  unfold BusController.warm BusController.closeAllGranted
  cases b.inFlight <;> simp

theorem lsync_warm_eq (l : Lsync) : l.warm = if l = .low then .high 20 else .cut 4 24 := by
  cases l <;> rfl

/-- RESTARTED is pending once, and so is ESTOP where it is asserted; every other notice is clear (R161, R174). -/
theorem warmNotices_record (s : State) (k : NoticeKind) : (warmNotices s).record k =
    if k = .restarted ∨ (k = .estop ∧ s.ctl.estop = true) then ⟨true, 1, 0⟩ else ⟨false, 0, 0⟩ := by
  have hclear : ∀ k, NoticeTable.cleared.record k = ⟨false, 0, 0⟩ := fun _ => rfl
  have hfirst : ∀ k, (NoticeTable.cleared.set s.settings.noticeMask .restarted none).record k
      = if k = .restarted then ⟨true, 1, 0⟩ else ⟨false, 0, 0⟩ := by
    intro k
    split
    · subst k
      rw [record_set_same, hclear]
      rfl
    · rw [record_set_other _ _ _ ‹_›, hclear]
  unfold warmNotices
  cases s.ctl.estop with
  | false => simpa using hfirst k
  | true =>
    simp only [if_true, and_true]
    by_cases hk : k = .estop
    · subst hk
      rw [record_set_same, hfirst]
      rfl
    · rw [record_set_other _ _ _ hk, hfirst]
      simp [hk]

theorem warmNotices_armed (s : State) : (warmNotices s).armed = true := by
  unfold warmNotices
  cases s.ctl.estop <;> rfl

/-- ATTN after a notice is set (R176). -/
theorem warmNotices_attn (s : State) : (warmNotices s).attn =
    (!s.settings.noticeMask.getLsbD 10 || (s.ctl.estop && !s.settings.noticeMask.getLsbD 7)) := by
  have hjudged : (warmNotices s).attn = (warmNotices s).calls s.settings.noticeMask := by
    unfold warmNotices
    cases s.ctl.estop <;> rfl
  rw [hjudged]
  simp only [NoticeTable.calls, noticeKinds, List.any_cons, List.any_nil, warmNotices_record, NoticeKind.place]
  cases s.ctl.estop <;> simp [Bool.or_comm]

/-! ### When it comes -/

theorem exec_warmReset {s : State} (h : Awake s) :
    exec .warmReset s = .next (if warmResetReady s then warmReset s else s) := by
  show execWarmReset s = _
  unfold execWarmReset
  exact live_awake s h

theorem warmResetReady_iff (s : State) :
    warmResetReady s = true ↔ s.ctl.resetDue = true ∨ (s.ctl.op = .windDown ∧ NothingLeft s) := by
  simp [warmResetReady, workDone_iff]

/-- With none owed, a warm reset is the end of a wind-down (R159). -/
theorem exec_warmReset_of_not_due {s : State} (hs : Awake s) (hr : s.ctl.resetDue = false) :
    exec .warmReset s = .next (endWindDown s) := by
  rw [exec_warmReset hs]
  obtain ⟨he, hn⟩ | ⟨he, hw⟩ := endWindDown_cases s
  · rw [he, if_neg]
    simpa [warmResetReady_iff, hr] using hn
  · rw [he, if_pos]
    exact (warmResetReady_iff s).2 (.inr hw)

theorem endWindDown_of_none_over {s : State} (h : ¬(s.ctl.op = .windDown ∧ NothingLeft s)) : endWindDown s = s := by
  obtain ⟨he, -⟩ | ⟨-, hw⟩ := endWindDown_cases s
  · exact he
  · exact absurd hw h

theorem concludeDry_rstn (s : State) : (concludeDry s).ctl.rstn = s.ctl.rstn := by
  rw [concludeDry_eq]
  simp only
  split <;> rfl

/-! ### A reset that is owed (R162) -/

/-- Once taken, an owed reset is owed no more. -/
theorem takeOwedReset_warmReset (s : State) : takeOwedReset (warmReset s) = warmReset s :=
  takeOwedReset_of_not_due _ (by rw [warmReset_eq])

theorem takeOwedReset_of_due {s : State} (h : s.ctl.resetDue = true) :
    takeOwedReset s = takeOwedReset (warmReset s) := by
  rw [takeOwedReset_warmReset]
  simp [takeOwedReset, h]

/-- A command that comes to the individual address of a part that can take it up is acted on and answered, a warm reset
owed or not (R165, R168, R170). -/
theorem hostCommand_listening {s : State} {addr : Byte} (kind : Byte) {payload : List Byte} (replyOnly : Bool)
    (cmd : State → State × Answer) (h : Listening s) (ha : addr = s.link.address) (h1 : 1 ≤ addr.toNat)
    (h32 : addr.toNat ≤ 32) (hl : payload.length ≤ 200) :
    hostCommand addr kind payload replyOnly cmd s = .next (giveReply kind (cmd s).2 (cmd s).1) := by
  obtain ⟨hs, htx, hrx⟩ := h
  have hroute : route s addr = .reply := by
    unfold route
    rw [if_neg (by omega), if_neg (by rintro rfl; simp at h1), if_pos ha]
  simp [hostCommand, live_awake s hs, receiveFrame, htx, hrx, hl, Config.maxPayload, answer, hroute]

/-- A command that takes the owed reset first does after it what it does before it (R162). -/
theorem hostCommand_after_owed {s : State} {addr kind : Byte} {payload : List Byte} {cmd : State → State × Answer}
    (h : Listening s) (ha : addr = s.link.address) (h1 : 1 ≤ addr.toNat) (h32 : addr.toNat ≤ 32)
    (hl : payload.length ≤ 200) (hcmd : cmd s = cmd (warmReset s)) :
    hostCommand addr kind payload false cmd s = hostCommand addr kind payload false cmd (warmReset s) := by
  obtain ⟨hs, htx, -⟩ := id h
  have ht : Listening (warmReset s) := by
    rw [warmReset_eq]
    exact ⟨hs, by simp [htx, Transmitter.warm], rfl⟩
  have ha' : addr = (warmReset s).link.address := by
    rw [warmReset_eq]
    exact ha
  rw [hostCommand_listening kind false cmd h ha h1 h32 hl, hostCommand_listening kind false cmd ht ha' h1 h32 hl, hcmd]

/-- The seven commands of the state controller take the owed reset first (R162). -/
theorem stateCommands_take_owed {s : State} (hr : s.ctl.resetDue = true) :
    cmdGoRun [] s = cmdGoRun [] (warmReset s) ∧ cmdGoStandby [] s = cmdGoStandby [] (warmReset s) ∧
      (∀ p : List Byte, p.length = 5 → cmdPurge p s = cmdPurge p (warmReset s)) ∧
      cmdRestart [] s = cmdRestart [] (warmReset s) ∧ cmdClearCold [] s = cmdClearCold [] (warmReset s) ∧
      cmdDryOn [] s = cmdDryOn [] (warmReset s) ∧ cmdDryOff [] s = cmdDryOff [] (warmReset s) := by
  have hto := takeOwedReset_of_due hr
  refine ⟨?_, ?_, fun p hp => ?_, ?_, ?_, ?_, ?_⟩
  case refine_3 =>
    match p, hp with
    | [r, w1, w0, sp1, sp0], _ =>
      unfold cmdPurge
      rw [hto]
  all_goals
    simp only [cmdGoRun, cmdGoStandby, cmdRestart, cmdClearCold, cmdDryOn, cmdDryOff]
    rw [hto]

/-- An assertion of ESTOP takes the owed reset first (R162). -/
theorem exec_estopAssertion_after_owed {s : State} (hs : Awake s) (hr : s.ctl.resetDue = true)
    (he : s.ctl.estop = false) : exec .estopAssertion s = exec .estopAssertion (warmReset s) := by
  have ht : Awake (warmReset s) := by
    rw [warmReset_eq]
    exact hs
  have het : (warmReset s).ctl.estop = false := by
    rw [warmReset_eq]
    exact he
  refine (live_awake s hs).trans (Eq.trans (congrArg _ ?_) (live_awake (warmReset s) ht).symm)
  rw [estopAssertion_of_released he, estopAssertion_of_released het, takeOwedReset_of_due hr]

/-- Settles O32: the reset's own equation, when it comes, and what comes after one that is owed. -/
theorem warmResetTakesItsValues : Obligations.WarmResetTakesItsValues := by
  intro s hs
  refine ⟨fun hready => ⟨warmReset s, ?_, ?_⟩, exec_warmReset_of_not_due hs, endWindDown_of_none_over, ?_,
    fun hr => ⟨warmReset s, ?_, exec_estopAssertion_after_owed hs hr, fun hl a ha h1 h32 => ?_⟩⟩
  · rw [exec_warmReset hs, if_pos ((warmResetReady_iff s).2 hready)]
  · rw [warmReset_eq]
    refine ⟨?_, rfl, rfl, rfl, rfl, rfl, rfl, fun h => ?_, rfl, rfl, rfl, rfl, rfl, rfl, fun reply h => ?_,
      fun reply since h => ?_, fun h => ?_, warmNotices_record s, warmNotices_armed s, warmNotices_attn s, rfl⟩
    · rw [lsync_warm_eq]
      rfl
    · exact (PerChute.get_map _ _ h).trans (warm_closeAllGranted _ _)
    · simp [h, Transmitter.warm]
    · simp [h, Transmitter.warm]
    · simp [h, Transmitter.warm]
  · have hu : Awake (concludeDry s) := (concludeDry_rstn s).trans hs
    exact ⟨_, _, live_awake s hs, live_awake _ hu, rfl⟩
  · rw [exec_warmReset hs, if_pos ((warmResetReady_iff s).2 (.inl hr))]
  · obtain ⟨hrun, hstandby, hpurge, hrestart, hcold, hon, hoff⟩ := stateCommands_take_owed hr
    exact ⟨hostCommand_after_owed hl ha h1 h32 (by simp) hrun, hostCommand_after_owed hl ha h1 h32 (by simp) hstandby,
      fun p hp => hostCommand_after_owed hl ha h1 h32 (by omega) (hpurge p hp),
      hostCommand_after_owed hl ha h1 h32 (by simp) hrestart, hostCommand_after_owed hl ha h1 h32 (by simp) hcold,
      hostCommand_after_owed hl ha h1 h32 (by simp) hon, hostCommand_after_owed hl ha h1 h32 (by simp) hoff⟩

end Sys2Proof.Machine
end

section
/-! SET of the numeric settings (O49): R7, R37, R171. -/

namespace Sys2Proof.Machine

/-! ### The conditions of the settings table (10.3) -/

theorem notWindDown_iff (s : State) : notWindDown s = true ↔ ¬s.ctl.op = .windDown := by
  simp [notWindDown]

theorem inStandby_iff (s : State) : inStandby s = true ↔ s.ctl.op = .standby := by
  simp [inStandby]

theorem standbyAllEmpty_iff (s : State) :
    standbyAllEmpty s = true ↔ s.ctl.op = .standby ∧ ∀ p ∈ s.firing.queues, p.2 = [] := by
  simp [standbyAllEmpty, inStandby_iff, queuesEmpty]

theorem standbyNoSwap_iff (s : State) :
    standbyNoSwap s = true ↔ s.ctl.op = .standby ∧ s.banks.pendingSwap = none ∧ s.banks.lastSwap = none := by
  simp [standbyNoSwap, inStandby_iff, bankBusy]

theorem standbyChuteEmpty_iff (h : Chute) (s : State) :
    standbyChuteEmpty h s = true ↔ s.ctl.op = .standby ∧ ∀ p ∈ s.firing.queues, chuteOf p.1 = h → p.2 = [] := by
  simp only [standbyChuteEmpty, inStandby_iff, chuteQueuesEmpty, Bool.and_eq_true, List.all_eq_true, Bool.or_eq_true,
    bne_iff_ne, List.isEmpty_iff, ne_eq, ← imp_iff_not_or]

/-! ### The chute of a SET -/

theorem chuteByte_of_val {c : Byte} {h : Chute} (hc : c.toNat = h.val) : chuteByte c = some h := by
  have hlt : c.toNat < 4 := hc ▸ h.isLt
  unfold chuteByte
  rw [dif_pos hlt]
  exact congrArg some (Fin.ext hc)

theorem chuteByte_of_large {c : Byte} (hc : 4 ≤ c.toNat) : chuteByte c = none := dif_neg (by omega)

/-! ### A SET that is heard -/

section
variable {s : State} {addr c v3 v2 v1 v0 id : Byte} {allowed : State → Bool} {lo hi : Nat}
  {store : Nat → State → State} {p : Prop} [Decidable p]

/-- A SET whose condition holds stores and reports the clamped value, any other is refused with NOT NOW (R171). -/
theorem exec_setNumeric {chute : Byte} {v : Nat} {payload : List Byte} (cmd : State → State × Answer)
    (h : Heard s addr) (hl : payload.length = 6) (hcmd : cmd s = setNumeric id chute allowed lo hi store v s)
    (hrange : lo ≤ hi) (hp : allowed s = true ↔ p) :
    hostCommand addr 0x12 payload false cmd s = .next
      (if p then settingReply id chute lo hi v (store (max lo (min hi v)) s) else replied 0x12 .notNow [] s) := by
  rw [hostCommand_heard s 0x12 false cmd h (by omega), hcmd, giveReply_setNumeric s v hrange]
  exact congrArg _ (if_congr hp rfl rfl)

/-- A SET of a setting without a chute. -/
theorem exec_setSetting (cmd : State → State × Answer) (h : Heard s addr)
    (hcmd : cmd s = withValue (fun _ => setNumeric id 0 allowed lo hi store) [c, v3, v2, v1, v0] s)
    (hrange : lo ≤ hi) (hp : allowed s = true ↔ p) :
    hostCommand addr 0x12 [id, c, v3, v2, v1, v0] false cmd s = .next
      (if p then settingReply id 0 lo hi (num32 v3 v2 v1 v0) (store (max lo (min hi (num32 v3 v2 v1 v0))) s)
      else replied 0x12 .notNow [] s) :=
  exec_setNumeric cmd h rfl hcmd hrange hp

/-- A SET that one condition forbids. -/
theorem exec_setSetting_unless (cmd : State → State × Answer) (h : Heard s addr)
    (hcmd : cmd s = withValue (fun _ => setNumeric id 0 allowed lo hi store) [c, v3, v2, v1, v0] s)
    (hrange : lo ≤ hi) (hp : allowed s = true ↔ ¬p) :
    hostCommand addr 0x12 [id, c, v3, v2, v1, v0] false cmd s = .next
      (if p then replied 0x12 .notNow [] s
      else settingReply id 0 lo hi (num32 v3 v2 v1 v0) (store (max lo (min hi (num32 v3 v2 v1 v0))) s)) := by
  rw [exec_setSetting cmd h hcmd hrange hp, ite_not]

end

/-- A SET VALVE GAP of no chute is refused before its condition is judged (R171). -/
theorem exec_setValveGap_of_no_chute {s : State} {addr c : Byte} {value : List Byte} (h : Heard s addr)
    (hl : value.length = 4) (hc : 4 ≤ c.toNat) :
    exec (.setValveGap addr (c :: value)) s = .next (replied 0x12 .outOfRange [] s) := by
  have hcmd : cmdSetValveGap (c :: value) s = refuse .outOfRange s := by
    match value, hl with
    | [v3, v2, v1, v0], _ => simp [cmdSetValveGap, withValue, chuteByte_of_large hc]
  refine (hostCommand_heard s 0x12 false _ h (by simp [hl])).trans ?_
  rw [hcmd]
  rfl

/-- Settles O49: each SET is the one SET of a numeric setting, with its condition, its range and what it stores. -/
theorem numericSettingsAreClampedAndStored : Obligations.NumericSettingsAreClampedAndStored := by
  intro s addr c v3 v2 v1 v0 h hrange v rest t standby idle notNow value
  obtain ⟨-, -, -, -, ⟨hmin, hmin'⟩, hmax, hcap, hmax', -⟩ := hrange
  have hwidthMin : 200 ≤ min 2000 s.settings.widthMax := le_min (by omega) (hmin.trans hmax)
  have hwidthMax : s.settings.widthMin ≤ min 10000 s.settings.widthCap := le_min (by omega) (hmax.trans hcap)
  have hwidthCap : max 2000 s.settings.widthMax ≤ 30000 := max_le (by omega) (by omega)
  refine ⟨?_, ?_, ?_, ?_, ?_, ?_, ?_, fun k hk => ?_, exec_setValveGap_of_no_chute h rfl, ?_, ?_, ?_⟩
  · exact exec_setSetting_unless (cmdSetAirTrim rest) h rfl (by omega) (notWindDown_iff s)
  · exact exec_setSetting (cmdSetLinePeriod rest) h rfl (by omega) (standbyAllEmpty_iff s)
  · exact exec_setSetting (cmdSetMaxAge rest) h rfl (by omega) (standbyNoSwap_iff s)
  · exact exec_setSetting (cmdSetLeadMin rest) h rfl (by omega) (inStandby_iff s)
  · exact exec_setSetting (cmdSetWidthMin rest) h rfl hwidthMin (standbyAllEmpty_iff s)
  · exact exec_setSetting (cmdSetWidthMax rest) h rfl hwidthMax (standbyAllEmpty_iff s)
  · exact exec_setSetting (cmdSetWidthCap rest) h rfl hwidthCap (standbyAllEmpty_iff s)
  · have hcmd : cmdSetValveGap rest s = setNumeric 8 c (standbyChuteEmpty k) 200 5000
        (fun v => updateSettings fun t => { t with valveGap := t.valveGap.set k v }) v s := by
      simp [cmdSetValveGap, withValue, rest, chuteByte_of_val hk, v]
    exact exec_setNumeric (cmdSetValveGap rest) h rfl hcmd (by omega) (standbyChuteEmpty_iff k s)
  · exact exec_setSetting (cmdSetReplyWait rest) h rfl (by omega) (inStandby_iff s)
  · exact exec_setSetting_unless (cmdSetMissLimit rest) h rfl (by omega) (notWindDown_iff s)
  · exact exec_setSetting_unless (cmdSetWindDownLimit rest) h rfl (by omega) (notWindDown_iff s)

end Sys2Proof.Machine
end

section
/-! What the events of the part and of its inputs leave standing (R30, R147, R149, R150): the queue of commands, the cold
flag, a closed table window, and that RUN is entered by a command alone. -/

namespace Sys2Proof.Machine

/-- The queue of commands and the cold flag are kept, no table window is opened, and a change of the operating state
closes the window and does not enter RUN. -/
structure Calm (s t : State) : Prop where
  pending : t.pending = s.pending
  cold : t.ctl.cold = s.ctl.cold
  window : s.link.window = none → t.link.window = none
  op : t.ctl.op = s.ctl.op ∨ (t.link.window = none ∧ t.ctl.op ≠ .run)

/-- What leaves all four alone. -/
theorem Calm.of_same {s t : State} (hp : t.pending = s.pending) (hc : t.ctl.cold = s.ctl.cold)
    (ho : t.ctl.op = s.ctl.op) (hw : t.link.window = s.link.window) : Calm s t :=
  ⟨hp, hc, fun h => hw.trans h, .inl ho⟩

theorem Calm.refl (s : State) : Calm s s := .of_same rfl rfl rfl rfl

/-- Where the second operation keeps the operating state, it keeps the window closed that the first has closed. -/
theorem Calm.trans {s t u : State} (h : Calm s t) (h' : Calm t u) : Calm s u where
  pending := h'.pending.trans h.pending
  cold := h'.cold.trans h.cold
  window hw := h'.window (h.window hw)
  op := by
    obtain ho' | ho' := h'.op
    · obtain ho | ⟨hw, ho⟩ := h.op
      · exact .inl (ho'.trans ho)
      · exact .inr ⟨h'.window hw, by rwa [ho']⟩
    · exact .inr ho'

/-- Whichever state a choice takes. -/
theorem Calm.ite {c : Prop} [Decidable c] {s t u : State} (ht : Calm s t) (hu : Calm s u) :
    Calm s (if c then t else u) := by
  split
  · exact ht
  · exact hu

/-- What every calm event does to a part that is not held in reset is calm. -/
theorem live_calm {f : State → State} (hf : ∀ s, Calm s (f s)) {s t : State} (h : live f s = .next t) : Calm s t :=
  live_keeps (P := Calm s) (fun u hu => hu.trans (hf u)) (Calm.refl s) h

/-! ### Ends and resets -/

theorem grantNext_calm (h : Chute) (s : State) : Calm s (grantNext h s) := by
  rw [grantNext_frame]
  exact .of_same rfl rfl rfl rfl

theorem grantAll_calm (s : State) : Calm s (grantAll s) := by
  rw [grantAll_frame]
  exact .of_same rfl rfl rfl rfl

theorem setNotice_calm (k : NoticeKind) (c : Option Chute) (s : State) : Calm s (setNotice k c s) :=
  .of_same rfl rfl rfl rfl

theorem closeWindow_calm (s : State) : Calm s (closeWindow s) := ⟨rfl, rfl, fun _ => rfl, .inl rfl⟩

/-- Entering a state other than RUN closes the window where the state changes (R30, R147). -/
theorem enterState_calm {op : OpState} (ho : op ≠ .run) (s : State) : Calm s (enterState op s) := by
  rw [enterState_eq]
  refine ⟨rfl, rfl, fun hw => ?_, ?_⟩
  · simp [hw]
  · by_cases h : s.ctl.op = op
    · exact .inl h.symm
    · exact .inr ⟨if_neg h, ho⟩

theorem concludeDry_calm (s : State) : Calm s (concludeDry s) := by
  unfold concludeDry
  exact .ite (.of_same rfl rfl rfl rfl) (.refl s)

theorem completePurge_calm (s : State) : Calm s (completePurge s) :=
  have hdiscard : Calm s { s with ctl := { s.ctl with purge := none } } := .of_same rfl rfl rfl rfl
  (hdiscard.trans (enterState_calm (by decide) _)).trans (setNotice_calm _ _ _)

theorem concludePurge_calm (s : State) : Calm s (concludePurge s) := by
  unfold concludePurge
  split
  · exact .refl s
  · exact .ite (completePurge_calm s) (.of_same rfl rfl rfl rfl)

theorem warmReset_window (s : State) : (warmReset s).link.window = none := by rw [warmReset_eq]

/-- A warm reset ends in STANDBY or in HALT (R161). -/
theorem warmReset_op_ne_run (s : State) : (warmReset s).ctl.op ≠ .run := by
  rw [warmReset_eq]
  cases s.ctl.estop <;> simp

theorem warmReset_calm (s : State) : Calm s (warmReset s) where
  pending := by rw [warmReset_eq]
  cold := by rw [warmReset_eq]
  window _ := warmReset_window s
  op := .inr ⟨warmReset_window s, warmReset_op_ne_run s⟩

theorem endWindDown_calm (s : State) : Calm s (endWindDown s) := .ite (warmReset_calm s) (.refl s)

theorem conclude_calm (s : State) : Calm s (conclude s) :=
  ((concludeDry_calm s).trans (concludePurge_calm _)).trans (endWindDown_calm _)

theorem takeOwedReset_calm (s : State) : Calm s (takeOwedReset s) := .ite (warmReset_calm s) (.refl s)

theorem coldResetEnd_calm (straps : BitVec 5) (estop airlow : Bool) (s : State) :
    Calm s (coldResetEnd straps estop airlow s) := by
  have hestop : ∀ u, Calm u (if estop then coldEstop u else u) := fun u =>
    have hlevel : Calm u { u with ctl := { u.ctl with estop := true } } := .of_same rfl rfl rfl rfl
    .ite ((hlevel.trans (enterState_calm (by decide) _)).trans (setNotice_calm _ _ _)) (.refl u)
  have hairlow : ∀ u, Calm u (if airlow then coldAirlow u else u) := fun u =>
    .ite (.of_same rfl rfl rfl rfl) (.refl u)
  have hstart : Calm s (requestCloseAll { s with
      ctl := { s.ctl with rstn := false }
      clk := LineClock.restarted coldPeriod
      link := { s.link with address := strapAddress straps } }) := .of_same rfl rfl rfl rfl
  exact ((hstart.trans (grantAll_calm _)).trans (hestop _)).trans (hairlow _)

theorem execWarmReset_calm {s t : State} (h : execWarmReset s = .next t) : Calm s t :=
  live_calm (fun u => .ite (warmReset_calm u) (.refl u)) h

/-! ### Giving up work -/

theorem abandonPlanning_calm (s : State) : Calm s (abandonPlanning s) := by
  rw [abandonPlanning_frame]
  exact .of_same rfl rfl rfl rfl

/-- Giving up the sightings and the rings leaves the state controller and the control port alone. -/
theorem giveUpSightings_calm (s : State) :
    Calm s (emptyRings (emptyHeld (emptyIntake (abandonPlanning s)))) :=
  (abandonPlanning_calm s).trans (.of_same rfl rfl rfl rfl)

theorem emergencyStop_calm (s : State) : Calm s (emergencyStop s) := by
  have hqueues : Calm s (emptyQueues (requestCloseAll s)) := .of_same rfl rfl rfl rfl
  have hwork := (hqueues.trans (grantAll_calm _)).trans (giveUpSightings_calm _)
  unfold emergencyStop
  simp only
  refine Calm.trans ?_ (setNotice_calm _ _ _)
  refine Calm.trans ?_ (enterState_calm (by decide) _)
  refine Calm.trans ?_ (concludeDry_calm _)
  exact hwork.trans (.of_same rfl rfl rfl rfl)

theorem estopAssertion_calm (s : State) : Calm s (estopAssertion s) := by
  unfold estopAssertion
  refine .ite (.refl s) ((takeOwedReset_calm s).trans ?_)
  refine Calm.trans ?_ (emergencyStop_calm _)
  exact .of_same rfl rfl rfl rfl

theorem windDownLimitExpiry_calm (s : State) : Calm s (windDownLimitExpiry s) := by
  have hexpiry : ∀ w, Calm s (windDownExpiry w s) := fun w => by
    unfold windDownExpiry
    simp only
    refine Calm.trans ?_ (conclude_calm _)
    refine Calm.trans ?_ (grantAll_calm _)
    exact (abandonPlanning_calm s).trans (.of_same rfl rfl rfl rfl)
  unfold windDownLimitExpiry
  split
  · exact .ite (hexpiry _) (.refl s)
  · exact .refl s

/-! ### The sighting port -/

theorem admitSighting_calm (g : Sighting) (s : State) : Calm s (admitSighting g s) := by
  unfold admitSighting
  exact .ite (.ite (.of_same rfl rfl rfl rfl) (.of_same rfl rfl rfl rfl)) (.of_same rfl rfl rfl rfl)

theorem takeVerdict_calm (h : Chute) (tag : Byte) (confirm : Bool) (s : State) :
    Calm s (takeVerdict h tag confirm s) := by
  obtain ⟨t, he, ht⟩ := takeVerdict_frame s h tag confirm
  have hst : Calm s t := by
    rw [ht]
    exact .of_same rfl rfl rfl rfl
  obtain he | he := he
  · rwa [he]
  · rw [he]
    exact hst.trans (endWindDown_calm t)

theorem setRecordRx_calm (r : RecordRx) (s : State) : Calm s (setRecordRx r s) := .of_same rfl rfl rfl rfl

theorem completeRecord_calm (bytes : List Byte) (s : State) : Calm s (completeRecord bytes s) := by
  have hrx := setRecordRx_calm (.collecting []) s
  unfold completeRecord
  split
  · exact .of_same rfl rfl rfl rfl
  · exact .of_same rfl rfl rfl rfl
  · exact hrx.trans (admitSighting_calm _ _)
  · exact hrx.trans (takeVerdict_calm _ _ _ _)

theorem recordByte_calm (b : Byte) (s : State) : Calm s (recordByte s b) := by
  unfold recordByte
  split
  · exact .refl s
  · exact .ite (setRecordRx_calm _ s) (completeRecord_calm _ s)

theorem recordBytesIn_calm (bytes : List Byte) (s : State) : Calm s (recordBytesIn bytes s) :=
  recordBytesIn_keeps (P := Calm s) (fun b u hu => hu.trans (recordByte_calm b u)) bytes s (.refl s)

theorem recordGap_calm (s : State) : Calm s (recordGap s) := by
  unfold recordGap
  split
  · exact .of_same rfl rfl rfl rfl
  · exact .refl s
  · exact .of_same rfl rfl rfl rfl

theorem execResyncIdleTimeout_calm {s t : State} (h : execResyncIdleTimeout s = .next t) : Calm s t :=
  live_calm (fun u => .ite (setRecordRx_calm _ u) (.refl u)) h

/-! ### The planner and the held list -/

theorem plannerTake_calm (s : State) : Calm s (plannerTake s) := by
  unfold plannerTake
  split
  · exact .of_same rfl rfl rfl rfl
  · exact .refl s

/-- A step of planning is calm if what it makes of its record is. -/
theorem planStep_calm {f : PlanRecord → State → State} (hf : ∀ r s, Calm s (f r s)) (step : PlanStep) (s : State) :
    Calm s (planStep step f s) := by
  unfold planStep
  split
  · exact .ite ((hf _ s).trans (endWindDown_calm _)) (.refl s)
  · exact .refl s

theorem setPlan_calm (r : PlanRecord) (s : State) : Calm s (setPlan r s) := .of_same rfl rfl rfl rfl

theorem countSighting_calm (h : Chute) (k : Nat) (c : SightingCounter) (s : State) :
    Calm s (countSighting h k c s) := .of_same rfl rfl rfl rfl

theorem endWith_calm (g : Sighting) (c : SightingCounter) (s : State) : Calm s (endWith g c s) :=
  .of_same rfl rfl rfl rfl

theorem ageStep_calm (r : PlanRecord) (s : State) : Calm s (ageStep r s) :=
  .ite (endWith_calm _ _ s) (setPlan_calm _ s)

theorem bandStep_calm (r : PlanRecord) (s : State) : Calm s (bandStep r s) :=
  .ite (endWith_calm _ _ s) (setPlan_calm _ s)

theorem nozzleSetStep_calm (r : PlanRecord) (s : State) : Calm s (nozzleSetStep r s) := by
  have hform : ∀ r, Calm s (formNozzleSet r s) := fun r =>
    .ite (endWith_calm _ _ s) ((Calm.ite (countSighting_calm _ _ _ s) (.refl s)).trans (setPlan_calm _ _))
  exact .ite (setPlan_calm _ s) (hform _)

theorem widthStep_calm (r : PlanRecord) (s : State) : Calm s (widthStep r s) :=
  .ite (endWith_calm _ _ s) (setPlan_calm _ s)

theorem leadStep_calm (r : PlanRecord) (s : State) : Calm s (leadStep r s) :=
  .ite (endWith_calm _ _ s) (setPlan_calm _ s)

theorem handOff_calm (e : HeldEntry) (s : State) : Calm s (handOff e s) := by
  rw [handOff_frame]
  exact .of_same rfl rfl rfl rfl

theorem endPlanning_calm (s : State) : Calm s (endPlanning s) := .of_same rfl rfl rfl rfl

theorem confidenceStep_calm (r : PlanRecord) (s : State) : Calm s (confidenceStep r s) :=
  .ite (setPlan_calm _ s) ((endPlanning_calm s).trans (handOff_calm _ _))

theorem placement_calm (r : PlanRecord) (s : State) : Calm s (placement r s) := by
  unfold placement
  refine (endPlanning_calm s).trans ?_
  rw [placeAndCount_frame]
  exact .of_same rfl rfl rfl rfl

theorem deadlineExpiry_calm (h : Chute) (tag : Byte) (s : State) : Calm s (deadlineExpiry h tag s) := by
  have hexpire : ∀ e, Calm s (expireSighting e (removeHeld h tag s)) := fun e => by
    rw [expireSighting_frame]
    exact .of_same rfl rfl rfl rfl
  unfold deadlineExpiry
  split
  · exact .ite ((hexpire _).trans (endWindDown_calm _)) (.refl s)
  · exact .refl s

/-! ### Dispatchers and valve buses -/

theorem entryStart_calm (g : Nat) (s : State) : Calm s (entryStart g s) := by
  have hjudge : ∀ x, Calm s (judgeStart g x s) := fun x => by
    rw [judgeStart_frame]
    exact .of_same rfl rfl rfl rfl
  unfold entryStart
  split
  · exact ((hjudge _).trans (grantNext_calm _ _)).trans (conclude_calm _)
  · exact .refl s

theorem entryEnd_calm (g : Nat) (s : State) : Calm s (entryEnd g s) := by
  have hend : ∀ e, Calm s (endEntry g e s) := fun e => by
    rw [endEntry_frame]
    exact .of_same rfl rfl rfl rfl
  unfold entryEnd
  split
  · exact ((hend _).trans (grantNext_calm _ _)).trans (conclude_calm _)
  · exact .refl s

theorem execGrant_calm {h : Chute} {s t : State} (he : execGrant h s = .next t) : Calm s t :=
  live_calm (fun u => .ite (.refl u) (.ite ((grantNext_calm h u).trans (conclude_calm _)) (.refl u))) he

theorem commandSent_calm (h : Chute) (s : State) : Calm s (commandSent h s) := by
  unfold commandSent
  simp only
  split
  · exact .ite (.of_same rfl rfl rfl rfl) (.refl s)
  · exact .refl s

theorem freeBus_calm (h : Chute) (s : State) : Calm s (freeBus h s) := by
  rw [freeBus_frame]
  exact .of_same rfl rfl rfl rfl

theorem completeTransaction_calm (h : Chute) (t : Transaction) (result : LastResult) (m : Nat) (s : State) :
    Calm s (completeTransaction h t result m s) := by
  have hflip : Calm s (if t.retry && result != .noReply then flipLane h t.lane s else s) :=
    .ite (.of_same rfl rfl rfl rfl) (.refl s)
  have heffect : ∀ u, Calm u (dispatchEffect t result (nozzleEffect t result m u)) := fun u => by
    rw [dispatchEffect_frame, nozzleEffect_frame]
    exact .of_same rfl rfl rfl rfl
  exact ((hflip.trans (heffect _)).trans (freeBus_calm h _)).trans (conclude_calm _)

theorem closeAllSendEnds_calm (h : Chute) (t : Transaction) (s : State) : Calm s (closeAllSendEnds h t s) := by
  unfold closeAllSendEnds
  split
  · exact .of_same rfl rfl rfl rfl
  · refine Calm.trans ?_ (conclude_calm _)
    refine Calm.trans ?_ (freeBus_calm h _)
    exact .ite (.refl s) (setNotice_calm _ _ s)

theorem replyWaitExpiry_calm (h : Chute) (s : State) : Calm s (replyWaitExpiry h s) := by
  have hretry : ∀ t : Transaction, Calm s (if t.retry then completeTransaction h t .noReply 0 s else retry h t s) :=
    fun t => .ite (completeTransaction_calm h t _ _ s) (.of_same rfl rfl rfl rfl)
  unfold replyWaitExpiry
  split
  · exact .refl s
  · split
    · exact .refl s
    · refine .ite ?_ (.refl s)
      split
      · exact closeAllSendEnds_calm h _ s
      · exact hretry _
      · exact hretry _

theorem valveReply_calm (h : Chute) (lane : Lane) (bytes : List Byte) (s : State) :
    Calm s (valveReply h lane bytes s) := by
  unfold valveReply
  split
  · refine .ite ?_ (.refl s)
    split
    · exact closeAllSendEnds_calm h _ s
    · exact completeTransaction_calm h _ _ _ s
    · exact completeTransaction_calm h _ _ _ s
  · exact .refl s

/-! ### Line clock, inputs and purge -/

theorem executeSwap_calm (n : Line) (s : State) : Calm s (executeSwap n s) := ⟨rfl, rfl, fun _ => rfl, .inl rfl⟩

theorem judgeSettle_calm (n : Line) (s : State) : Calm s (judgeSettle n s) := by
  unfold judgeSettle
  split
  · exact .refl s
  · exact .ite (.ite (.of_same rfl rfl rfl rfl) (.of_same rfl rfl rfl rfl)) (.refl s)

theorem lsyncPulse_calm (s : State) : Calm s (lsyncPulse s) := by
  have hclk : Calm s { s with clk := s.clk.pulse } := .of_same rfl rfl rfl rfl
  have hline : ∀ n u, Calm u (bankLine n u) := fun n u =>
    (Calm.ite (executeSwap_calm n u) (.refl u)).trans (judgeSettle_calm n _)
  exact .ite (.of_same rfl rfl rfl rfl) (hclk.trans (hline _ _))

theorem execLsyncPulse_calm {s t : State} (h : execLsyncPulse s = .next t) : Calm s t :=
  live_calm (fun u => .ite (lsyncPulse_calm u) (.refl u)) h

theorem airlowAssertion_calm (s : State) : Calm s (airlowAssertion s) :=
  .ite (.refl s) (.of_same rfl rfl rfl rfl)

theorem purgeOffer_calm (width n : Nat) (h : Chute) (s : State) : Calm s (purgeOffer width n h s) := by
  rw [purgeOffer_frame]
  exact .of_same rfl rfl rfl rfl

theorem makeTurn_calm (p : Purge) (s : State) : Calm s (makeTurn p s) := by
  have hoffer := purgeOffer_calm p.width (p.nextTurn % Config.nozzlesPerChute)
  have hoffers := (((hoffer 0 s).trans (hoffer 1 _)).trans (hoffer 2 _)).trans (hoffer 3 _)
  unfold makeTurn
  simp only
  refine Calm.trans ?_ (conclude_calm _)
  revert hoffers
  generalize purgeOffer p.width (p.nextTurn % Config.nozzlesPerChute) 3 _ = u
  exact fun hoffers => hoffers.trans (.of_same rfl rfl rfl rfl)

theorem purgeTurn_calm (s : State) : Calm s (purgeTurn s) := by
  unfold purgeTurn
  split
  · exact .ite (makeTurn_calm _ s) (.refl s)
  · exact .refl s

theorem replyTurnaroundEnd_calm (s : State) : Calm s (replyTurnaroundEnd s) := by
  unfold replyTurnaroundEnd
  split
  · exact .ite (.of_same rfl rfl rfl rfl) (.refl s)
  · exact .refl s

theorem replySent_calm (s : State) : Calm s (replySent s) := by
  unfold replySent
  split
  · exact .of_same rfl rfl rfl rfl
  · exact .refl s

end Sys2Proof.Machine
end

section
/-! What the twenty commands do (R30, R147, R149, R150, R169): each is refused and changes nothing, or is taken; the
commands of the state controller do so after a warm reset that is owed (R162). -/

namespace Sys2Proof.Machine

/-- The commands that close the table window when they are taken (R30). -/
abbrev ClosesWindow (kind : Byte) : Prop := kind ≠ 0x01 ∧ kind ≠ 0x0A ∧ kind ≠ 0x0B ∧ kind ≠ 0x0C

/-- The conditions of GO RUN (R150). -/
def MayRun (s : State) : Prop :=
  s.ctl.op = .standby ∧ s.ctl.estop = false ∧ s.clk.pendingRestart = false ∧ s.ctl.cold = false ∧
    (s.banks.data s.banks.working).loaded = ⟨true, true, true, true⟩

/-- What a taken command of a KIND leaves standing, whatever its own effect. -/
structure Acts (kind : Byte) (s t : State) : Prop where
  pending : t.pending = s.pending
  cold : s.ctl.cold = false → t.ctl.cold = false
  op : t.ctl.op = s.ctl.op ∨ (t.link.window = none ∧ (t.ctl.op = .run → MayRun s))
  clock : kind ≠ 0x07 → t.clk.now = s.clk.now
  closed : ClosesWindow kind → t.link.window = none
  poll : kind = 0x01 → t.link.window = s.link.window

/-- A command is refused and changes nothing, or it is taken. -/
def Judged (kind : Byte) (s : State) (r : State × Answer) : Prop :=
  (∃ e : Result, e.taken = false ∧ r = refuse e s) ∨ (r.2.result.taken = true ∧ Acts kind s r.1)

/-- A command is judged as the state stands, or after the warm reset that is owed (R162). -/
def Obeys (kind : Byte) (s : State) (r : State × Answer) : Prop :=
  Judged kind s r ∨ (s.ctl.resetDue = true ∧ ClosesWindow kind ∧ Judged kind (warmReset s) r)

section
variable {kind : Byte} {s t : State} {r r' : State × Answer}

theorem Judged.refused {e : Result} (he : e.taken = false) : Judged kind s (refuse e s) := .inl ⟨e, he, rfl⟩

theorem Judged.taken {a : Answer} (ha : a.result.taken = true) (h : Acts kind s t) : Judged kind s (t, a) :=
  .inr ⟨ha, h⟩

/-- Whichever outcome a check takes. -/
theorem Judged.ite {c : Prop} [Decidable c] (h : Judged kind s r) (h' : Judged kind s r') :
    Judged kind s (if c then r else r') := by
  split
  · exact h
  · exact h'

theorem Judged.obeys (h : Judged kind s r) : Obeys kind s r := .inl h

theorem Obeys.refused {e : Result} (he : e.taken = false) : Obeys kind s (refuse e s) := .inl (.refused he)

theorem Obeys.ite {c : Prop} [Decidable c] (h : Obeys kind s r) (h' : Obeys kind s r') :
    Obeys kind s (if c then r else r') := by
  split
  · exact h
  · exact h'

/-- A command of the state controller is judged after the reset that is owed, if one is (R162). -/
theorem Obeys.of_takeOwedReset (hk : ClosesWindow kind) (h : Judged kind (takeOwedReset s) r) : Obeys kind s r := by
  unfold takeOwedReset at h
  split at h
  · exact .inr ⟨‹_›, hk, h⟩
  · exact .inl h

theorem clampedIf_taken (b : Bool) : (clampedIf b).taken = true := by cases b <;> rfl

/-- A calm effect that stays in its instant and leaves the window closed. -/
theorem Calm.acts (h : Calm s t) (hnow : t.clk.now = s.clk.now) (hw : t.link.window = none) (hk : kind ≠ 0x01) :
    Acts kind s t where
  pending := h.pending
  cold hc := h.cold.trans hc
  op := h.op.imp_right fun ⟨_, ho⟩ => ⟨hw, fun hr => absurd hr ho⟩
  clock _ := hnow
  closed _ := hw
  poll he := absurd he hk

/-- A calm effect that stays in its instant, after which the window is closed. -/
theorem Calm.acts_closed (h : Calm s t) (hnow : t.clk.now = s.clk.now) (hk : kind ≠ 0x01) :
    Acts kind s (closeWindow t) :=
  (h.trans (closeWindow_calm t)).acts hnow rfl hk

end

/-! ### POLL, NOTICES and REARM -/

variable (p : List Byte) (s : State)

theorem poll_judged : Judged 0x01 s (cmdPoll p s) := by
  have hpoll : ∀ (n : NoticeTable) (a : List Byte), Judged 0x01 s ({ s with notices := n }, ⟨.done, a⟩) := fun n a =>
    .taken rfl ⟨rfl, id, .inl rfl, fun _ => rfl, fun hk => absurd rfl hk.1, fun _ => rfl⟩
  unfold cmdPoll
  split
  · exact .ite (hpoll _ _) (hpoll s.notices _)
  · exact .refused rfl

theorem notices_judged : Judged 0x02 s (cmdNotices p s) := by
  unfold cmdNotices
  split
  · exact .taken rfl (Calm.acts ⟨rfl, rfl, fun _ => rfl, .inl rfl⟩ rfl rfl (by decide))
  · exact .refused rfl

theorem rearm_judged : Judged 0x03 s (cmdRearm p s) := by
  unfold cmdRearm
  split
  · exact .taken rfl (Calm.acts ⟨rfl, rfl, fun _ => rfl, .inl rfl⟩ rfl rfl (by decide))
  · exact .refused rfl

/-! ### The state controller -/

/-- RUN is entered under the conditions of GO RUN (R150). -/
theorem enterRun_acts {kind : Byte} {s : State} (h : MayRun s) (hk : kind ≠ 0x01) :
    Acts kind s (enterState .run (closeWindow s)) := by
  have hw : (enterState .run (closeWindow s)).link.window = none := by
    rw [enterState_eq]
    exact ite_self _
  refine ⟨?_, fun hc => ?_, .inr ⟨hw, fun _ => h⟩, fun _ => ?_, fun _ => hw, fun he => absurd he hk⟩
  all_goals rw [enterState_eq]
  · rfl
  · exact hc
  · rfl

theorem loadedAll_iff (f : LoadedFlags) : f.all = true ↔ f = ⟨true, true, true, true⟩ := by
  obtain ⟨a, b, c, d⟩ := f
  simp [LoadedFlags.all, and_assoc]

theorem goRun_obeys : Obeys 0x04 s (cmdGoRun p s) := by
  unfold cmdGoRun
  split
  · refine .of_takeOwedReset (by decide) ?_
    generalize takeOwedReset s = u
    simp only
    split
    · exact .refused rfl
    · split
      · exact .refused rfl
      · split
        · exact .refused rfl
        · split
          · exact .refused rfl
          · split
            · exact .refused rfl
            · rename_i hop hestop hrestart hcold hload
              have hmay : MayRun u := ⟨by simpa using hop, by simpa using hestop, by simpa using hrestart,
                by simpa using hcold, (loadedAll_iff _).1 (by simpa using hload)⟩
              exact .taken rfl (enterRun_acts hmay (by decide))
  · exact .refused rfl

/-- The work given up on leaving RUN or PURGE, by way of STANDBY. -/
theorem leaveWork_calm (o : Origin) (s : State) : Calm s (enterState .standby (abandonOrigin o s)) :=
  have habandon : Calm s (abandonOrigin o s) := .of_same rfl rfl rfl rfl
  habandon.trans (enterState_calm (by decide) _)

theorem enterState_clk (op : OpState) (s : State) : (enterState op s).clk = s.clk := by rw [enterState_eq]

/-- An effect on a part whose window has just been closed. -/
theorem acts_after_close {kind : Byte} {s t : State} (h : Calm (closeWindow s) t) (hnow : t.clk.now = s.clk.now)
    (hk : kind ≠ 0x01) : Acts kind s t :=
  ((closeWindow_calm s).trans h).acts hnow (h.window rfl) hk

theorem standbyFromRun_calm (s : State) : Calm s (standbyFromRun s) :=
  (giveUpSightings_calm s).trans (leaveWork_calm _ _)

theorem standbyFromRun_clk (s : State) : (standbyFromRun s).clk = s.clk := by
  refine (enterState_clk _ _).trans ?_
  show (abandonPlanning s).clk = s.clk
  rw [abandonPlanning_frame]

theorem standbyFromPurge_calm (s : State) : Calm s (standbyFromPurge s) :=
  have hdiscard : Calm s { s with ctl := { s.ctl with purge := none } } := .of_same rfl rfl rfl rfl
  hdiscard.trans (leaveWork_calm _ _)

theorem goStandby_obeys : Obeys 0x05 s (cmdGoStandby p s) := by
  unfold cmdGoStandby
  split
  · refine .of_takeOwedReset (by decide) ?_
    generalize takeOwedReset s = u
    simp only
    split
    · exact .taken rfl ((Calm.refl u).acts_closed rfl (by decide))
    · exact .taken rfl (acts_after_close (standbyFromRun_calm _)
        (congrArg LineClock.now (standbyFromRun_clk (closeWindow u))) (by decide))
    · exact .taken rfl (acts_after_close (standbyFromPurge_calm _)
        (congrArg LineClock.now (enterState_clk _ _)) (by decide))
    · exact .ite (.refused rfl) (.taken rfl (acts_after_close (enterState_calm (by decide) _)
        (congrArg LineClock.now (enterState_clk _ _)) (by decide)))
    · exact .refused rfl
  · exact .refused rfl

/-- Outside a wind-down no conclusion stirs the line clock. -/
theorem conclude_clk {s : State} (h : s.ctl.op ≠ .windDown) : (conclude s).clk = s.clk := by
  rw [conclude_of_op_ne s h, concludePurge_frame]
  show (concludeDry s).clk = s.clk
  rw [concludeDry_eq]

/-- A turn of a purge stays in its instant. -/
theorem makeTurn_clk {s : State} (q : Purge) (h : s.ctl.op ≠ .windDown) : (makeTurn q s).clk = s.clk := by
  have hoffer : ∀ (n : Nat) (c : Chute) (u : State), (purgeOffer q.width n c u).clk = u.clk ∧
      (purgeOffer q.width n c u).ctl.op = u.ctl.op := by
    intro n c u
    rw [purgeOffer_frame]
    exact ⟨rfl, rfl⟩
  unfold makeTurn
  simp only
  rw [conclude_clk]
  · simp only [hoffer]
  · simpa only [hoffer] using h

/-- A new record of the state controller, then a state other than RUN, with the window closed. -/
theorem enterWith_calm {op : OpState} {c : Controller} (ho : op ≠ .run) (hcold : c.cold = s.ctl.cold)
    (hop : c.op = s.ctl.op) :
    Calm s (enterState op (closeWindow { s with ctl := c })) ∧
      (enterState op (closeWindow { s with ctl := c })).link.window = none ∧
      (enterState op (closeWindow { s with ctl := c })).ctl.op = op ∧
      (enterState op (closeWindow { s with ctl := c })).clk = s.clk := by
  have hcreate : Calm s (closeWindow { s with ctl := c }) := ⟨rfl, hcold, fun _ => rfl, .inl hop⟩
  refine ⟨hcreate.trans (enterState_calm ho _), ?_⟩
  rw [enterState_eq]
  exact ⟨ite_self _, rfl, rfl⟩

theorem startPurge_acts (rounds width spacing : Nat) : Acts 0x06 s (startPurge rounds width spacing s) := by
  unfold startPurge
  simp only
  generalize Purge.mk width spacing (Config.nozzlesPerChute * rounds) 0 s.clk.now false [] = q
  obtain ⟨hcalm, hw, hop, hclk⟩ := enterWith_calm s (op := .purge) (c := { s.ctl with purge := some q }) (by decide)
    rfl rfl
  revert hcalm hw hop hclk
  generalize enterState .purge _ = u
  intro hcalm hw hop hclk
  have hnow : (makeTurn q u).clk = s.clk := (makeTurn_clk q (by simp [hop])).trans hclk
  exact (hcalm.trans (makeTurn_calm q u)).acts (congrArg LineClock.now hnow) ((makeTurn_calm q u).window hw) (by decide)

theorem purge_obeys : Obeys 0x06 s (cmdPurge p s) := by
  unfold cmdPurge
  split
  · exact .of_takeOwedReset (by decide) (.ite (.refused rfl) (.ite (.refused rfl)
      (.taken (clampedIf_taken _) (startPurge_acts _ _ _ _))))
  · exact .refused rfl

/-- A wind-down begins with the window closed; what ends it at once is a warm reset (R158, R159). -/
theorem startWindDown_acts : Acts 0x07 s (endWindDown (startWindDown s)) := by
  obtain ⟨hstart, hw, -⟩ : Calm s (startWindDown s) ∧ (startWindDown s).link.window = none ∧ _ ∧ _ :=
    enterWith_calm s (by decide) rfl rfl
  have hend := endWindDown_calm (startWindDown s)
  exact ⟨(hstart.trans hend).pending, fun hc => (hstart.trans hend).cold.trans hc,
    (hstart.trans hend).op.imp_right fun ⟨hw, ho⟩ => ⟨hw, fun hr => absurd hr ho⟩, fun hk => absurd rfl hk,
    fun _ => hend.window hw, fun he => absurd he (by decide)⟩

theorem restart_obeys : Obeys 0x07 s (cmdRestart p s) := by
  unfold cmdRestart
  split
  · exact .of_takeOwedReset (by decide) (.ite (.refused rfl) (.taken rfl (startWindDown_acts _)))
  · exact .refused rfl

theorem clearCold_obeys : Obeys 0x08 s (cmdClearCold p s) := by
  unfold cmdClearCold
  split
  · refine .of_takeOwedReset (by decide) (.taken rfl ?_)
    exact ⟨rfl, fun _ => rfl, .inl rfl, fun _ => rfl, fun _ => rfl, fun he => absurd he (by decide)⟩
  · exact .refused rfl

theorem dryOn_calm (s : State) : Calm s (dryOn s) := by
  unfold dryOn
  refine .ite (.refl s) (Calm.trans ?_ (concludeDry_calm _))
  exact .of_same rfl rfl rfl rfl

theorem dryOn_clk (s : State) : (dryOn s).clk = s.clk := by
  unfold dryOn
  split
  · rfl
  · rw [concludeDry_eq]

theorem dryOn_obeys : Obeys 0x09 s (cmdDryOn p s) := by
  unfold cmdDryOn
  split
  · exact .of_takeOwedReset (by decide) (.ite (.taken rfl (acts_after_close (dryOn_calm _)
      (congrArg LineClock.now (dryOn_clk (closeWindow (takeOwedReset s)))) (by decide))) (.refused rfl))
  · exact .refused rfl

theorem dryOff_obeys : Obeys 0x09 s (cmdDryOff p s) := by
  unfold cmdDryOff
  split
  · exact .of_takeOwedReset (by decide) (.ite (.taken rfl (Calm.acts ⟨rfl, rfl, fun _ => rfl, .inl rfl⟩ rfl rfl
      (by decide))) (.refused rfl))
  · exact .refused rfl

theorem dry_obeys : Obeys 0x09 s (cmdDry p s) := by
  unfold cmdDry
  split
  · exact .ite (.refused rfl) (.ite (dryOn_obeys _ s) (.ite (dryOff_obeys _ s) (.refused rfl)))
  · exact .refused rfl

/-! ### The table banks -/

/-- WINDOW, PUT and GET, which leave the state controller and the line clock alone. -/
theorem acts_on_window {kind : Byte} {s t : State} (hp : t.pending = s.pending) (hctl : t.ctl = s.ctl)
    (hclk : t.clk = s.clk) (hk : kind = 0x0A ∨ kind = 0x0B ∨ kind = 0x0C) : Acts kind s t where
  pending := hp
  cold hc := by rwa [hctl]
  op := .inl (by rw [hctl])
  clock _ := by rw [hclk]
  closed hc := by
    obtain ⟨-, ha, hb, hc⟩ := hc
    tauto
  poll he := absurd he (by rcases hk with rfl | rfl | rfl <;> decide)

theorem window_judged : Judged 0x0A s (cmdWindow p s) := by
  have hopen : ∀ w, Acts 0x0A s (openWindow w s) := fun w => by
    unfold openWindow
    simp only
    split
    all_goals exact acts_on_window rfl rfl rfl (.inl rfl)
  unfold cmdWindow
  split
  · split
    · exact .refused rfl
    · exact .ite (.refused rfl) (.ite (.refused rfl) (.ite (.refused rfl) (.taken rfl (hopen _))))
  · exact .refused rfl

theorem put_judged : Judged 0x0B s (cmdPut p s) := by
  have hput : ∀ w e, Acts 0x0B s (putEntry w e s) := fun w e => by
    unfold putEntry
    simp only
    split
    all_goals exact acts_on_window rfl rfl rfl (.inr (.inl rfl))
  unfold cmdPut
  refine .ite (.refused rfl) ?_
  split
  · exact .refused rfl
  · refine .ite (.refused rfl) ?_
    split
    · exact .refused rfl
    · exact .taken (clampedIf_taken _) (hput _ _)

theorem get_judged : Judged 0x0C s (cmdGet p s) := by
  unfold cmdGet
  split
  · split
    · exact .refused rfl
    · exact .ite (.refused rfl) (.taken rfl (acts_on_window rfl rfl rfl (.inr (.inr rfl))))
  · exact .refused rfl

theorem requestSwap_judged (ls : Line) : Judged 0x0D s (requestSwap ls s) := by
  unfold requestSwap
  exact .ite (.refused rfl) (.ite (.refused rfl) (.ite (.refused rfl)
    (.taken rfl (Calm.acts ⟨rfl, rfl, fun _ => rfl, .inl rfl⟩ rfl rfl (by decide)))))

theorem swapCancel_judged : Judged 0x0D s (cmdSwapCancel p s) := by
  unfold cmdSwapCancel
  split
  · exact .ite (.refused rfl) (.taken rfl (Calm.acts ⟨rfl, rfl, fun _ => rfl, .inl rfl⟩ rfl rfl (by decide)))
  · exact .refused rfl

theorem swapAtLine_judged : Judged 0x0D s (cmdSwapAtLine p s) := by
  unfold cmdSwapAtLine
  split
  · exact requestSwap_judged s _
  · exact .refused rfl

theorem swapAtNextLine_judged : Judged 0x0D s (cmdSwapAtNextLine p s) := by
  unfold cmdSwapAtNextLine
  split
  · exact requestSwap_judged s _
  · exact .refused rfl

theorem swap_judged : Judged 0x0D s (cmdSwap p s) := by
  unfold cmdSwap
  split
  · exact .ite (.refused rfl) (.ite (swapAtLine_judged _ s) (.ite (swapAtNextLine_judged _ s)
      (.ite (swapCancel_judged _ s) (.refused rfl))))
  · exact .refused rfl

/-! ### Nozzles and lanes -/

theorem nozzleRead_judged : Judged 0x0E s (cmdNozzleRead p s) := by
  unfold cmdNozzleRead
  split
  · exact .ite (.taken rfl ((Calm.refl s).acts_closed rfl (by decide))) (.refused rfl)
  · exact .refused rfl

/-- Outside a wind-down a NOZZLE WRITE stays in its instant, whatever its abandoned entries conclude. -/
theorem writeNozzle_acts {s : State} (g : Nat) (f : NozzleFields) (h : s.ctl.op ≠ .windDown) :
    Acts 0x0F s (writeNozzle g f s) := by
  have habandon : ∀ r, Calm s (abandonWaiting g (closeWindow (s.setNozzle g r))) := fun r =>
    ⟨rfl, rfl, fun _ => rfl, .inl rfl⟩
  unfold writeNozzle
  simp only
  split
  · exact ((habandon _).trans (conclude_calm _)).acts (congrArg LineClock.now (conclude_clk h))
      ((conclude_calm _).window rfl) (by decide)
  · exact Calm.acts ⟨rfl, rfl, fun _ => rfl, .inl rfl⟩ rfl rfl (by decide)

theorem nozzleWrite_judged : Judged 0x0F s (cmdNozzleWrite p s) := by
  unfold cmdNozzleWrite
  split
  · split
    · exact .refused rfl
    · refine .ite (.refused rfl) ?_
      split
      · exact .refused rfl
      · rename_i hop
        exact .ite (.refused rfl) (.ite (.refused rfl) (.taken (clampedIf_taken _) (writeNozzle_acts _ _ hop)))
  · exact .refused rfl

theorem test_judged : Judged 0x10 s (cmdTest p s) := by
  have hoffer : ∀ g c e, Acts 0x10 s (offer g c e 0 .test (closeWindow s)).1 := fun g c e => by
    rw [offer_frame]
    exact Calm.acts ⟨rfl, rfl, fun _ => rfl, .inl rfl⟩ rfl rfl (by decide)
  unfold cmdTest
  split
  · exact .ite (.refused rfl) (.ite (.refused rfl) (.ite (.refused rfl) (.ite (.refused rfl)
      (.taken (clampedIf_taken _) (hoffer _ _ _)))))
  · exact .refused rfl

theorem lane_judged : Judged 0x11 s (cmdLane p s) := by
  unfold cmdLane
  split
  · split
    · exact .taken rfl (Calm.acts ⟨rfl, rfl, fun _ => rfl, .inl rfl⟩ rfl rfl (by decide))
    · exact .refused rfl
  · exact .refused rfl

/-! ### Settings and tallies -/

theorem withValue_judged {f : Byte → Nat → State → State × Answer} {s : State}
    (hf : ∀ c v, Judged 0x12 s (f c v s)) (rest : List Byte) : Judged 0x12 s (withValue f rest s) := by
  unfold withValue
  split
  · exact hf _ _
  · exact .refused rfl

theorem setNumeric_judged {id chute : Byte} {allowed : State → Bool} {lo hi v : Nat} {store : Nat → State → State}
    {s : State} (hstore : ∀ v, Calm s (store v s)) (hnow : ∀ v, (store v s).clk.now = s.clk.now) :
    Judged 0x12 s (setNumeric id chute allowed lo hi store v s) :=
  .ite (.taken (clampedIf_taken _) ((hstore _).acts_closed (hnow _) (by decide))) (.refused rfl)

/-- The SET of a setting without a chute. -/
theorem setSetting_judged {id : Byte} {allowed : State → Bool} {lo hi : Nat} {f : Nat → Settings → Settings} :
    Judged 0x12 s (withValue (fun _ => setNumeric id 0 allowed lo hi fun v => updateSettings (f v)) p s) :=
  withValue_judged (fun _ _ => setNumeric_judged (fun _ => .of_same rfl rfl rfl rfl) fun _ => rfl) p

theorem setLinePeriod_judged : Judged 0x12 s (cmdSetLinePeriod p s) :=
  withValue_judged (fun _ _ => setNumeric_judged (fun _ => .of_same rfl rfl rfl rfl) fun _ => rfl) p

theorem setValveGap_judged : Judged 0x12 s (cmdSetValveGap p s) :=
  withValue_judged (fun c v => by
    split
    · exact .refused rfl
    · exact setNumeric_judged (fun _ => .of_same rfl rfl rfl rfl) fun _ => rfl) p

theorem setGroupAddress_judged : Judged 0x12 s (cmdSetGroupAddress p s) := by
  have hstore : ∀ f, Acts 0x12 s (closeWindow (updateSettings f s)) := fun _ =>
    Calm.acts ⟨rfl, rfl, fun _ => rfl, .inl rfl⟩ rfl rfl (by decide)
  exact withValue_judged (fun _ _ => .ite (.taken rfl (hstore _)) (.refused rfl)) p

theorem setNoticeMask_judged : Judged 0x12 s (cmdSetNoticeMask p s) := by
  have hstore : ∀ mask, Acts 0x12 s (closeWindow (storeMask mask s)) := fun _ =>
    Calm.acts ⟨rfl, rfl, fun _ => rfl, .inl rfl⟩ rfl rfl (by decide)
  exact withValue_judged (fun _ _ => .taken rfl (hstore _)) p

theorem set_judged : Judged 0x12 s (cmdSet p s) := by
  unfold cmdSet
  split
  · exact .ite (.refused rfl) <| .ite (setSetting_judged _ s) <| .ite (setLinePeriod_judged _ s) <|
      .ite (setSetting_judged _ s) <| .ite (setSetting_judged _ s) <| .ite (setSetting_judged _ s) <|
      .ite (setSetting_judged _ s) <| .ite (setSetting_judged _ s) <| .ite (setValveGap_judged _ s) <|
      .ite (setSetting_judged _ s) <| .ite (setSetting_judged _ s) <| .ite (setSetting_judged _ s) <|
      .ite (setGroupAddress_judged _ s) <| .ite (setNoticeMask_judged _ s) (.refused rfl)
  · exact .refused rfl

theorem query_judged : Judged 0x13 s (cmdQuery p s) := by
  unfold cmdQuery
  split
  · split
    · exact .taken rfl ((Calm.refl s).acts_closed rfl (by decide))
    · exact .refused rfl
  · exact .refused rfl

theorem tally_judged : Judged 0x14 s (cmdTally p s) := by
  have hclear : ∀ n, Calm s (clearTally n s) ∧ (clearTally n s).clk = s.clk := fun n => by
    cases n <;> exact ⟨.of_same rfl rfl rfl rfl, rfl⟩
  have hif : ∀ (clear : Byte) n, Acts 0x14 s (closeWindow (if clear = 1 then clearTally n s else s)) := fun clear n => by
    split
    · exact (hclear n).1.acts_closed (congrArg LineClock.now (hclear n).2) (by decide)
    · exact (Calm.refl s).acts_closed rfl (by decide)
  unfold cmdTally
  split
  · refine .ite (.refused rfl) ?_
    split
    · exact .refused rfl
    · exact .taken rfl (hif _ _)
  · exact .refused rfl

end Sys2Proof.Machine
end

section
/-! Frames of commands (O39) and the operating state, the cold flag and the queue of commands at every event (O40): R30,
R147, R149, R150, R158, R162, R168 to R170. -/

namespace Sys2Proof.Machine

/-! ### A frame is one command -/

/-- A frame without the reply mark comes down to one command, which is judged (R168, R169). -/
theorem judgeFrame_obeys {kind : Byte} (hm : kind.msb = false) (addr : Byte) (p : List Byte) (s : State) :
    ∃ (replyOnly : Bool) (cmd : State → State × Answer), Obeys kind s (cmd s) ∧
      judgeFrame addr kind p s = answer addr kind replyOnly cmd s := by
  have key : ∀ {n : Byte} {replyOnly : Bool} {cmd : State → State × Answer}, kind.toNat = n.toNat →
      Obeys n s (cmd s) → ∃ (replyOnly' : Bool) (cmd' : State → State × Answer), Obeys kind s (cmd' s) ∧
        answer addr kind replyOnly cmd s = answer addr kind replyOnly' cmd' s := fun hn hc =>
    ⟨_, _, BitVec.eq_of_toNat_eq hn ▸ hc, rfl⟩
  unfold judgeFrame
  rw [if_neg (by simp [hm])]
  split
  · exact key (n := 0x01) ‹_› (poll_judged p s).obeys
  · exact key (n := 0x02) ‹_› (notices_judged p s).obeys
  · exact key (n := 0x03) ‹_› (rearm_judged p s).obeys
  · exact key (n := 0x04) ‹_› (goRun_obeys p s)
  · exact key (n := 0x05) ‹_› (goStandby_obeys p s)
  · exact key (n := 0x06) ‹_› (purge_obeys p s)
  · exact key (n := 0x07) ‹_› (restart_obeys p s)
  · exact key (n := 0x08) ‹_› (clearCold_obeys p s)
  · exact key (n := 0x09) ‹_› (dry_obeys p s)
  · exact key (n := 0x0A) ‹_› (window_judged p s).obeys
  · exact key (n := 0x0B) ‹_› (put_judged p s).obeys
  · exact key (n := 0x0C) ‹_› (get_judged p s).obeys
  · exact key (n := 0x0D) ‹_› (swap_judged p s).obeys
  · exact key (n := 0x0E) ‹_› (nozzleRead_judged p s).obeys
  · exact key (n := 0x0F) ‹_› (nozzleWrite_judged p s).obeys
  · exact key (n := 0x10) ‹_› (test_judged p s).obeys
  · exact key (n := 0x11) ‹_› (lane_judged p s).obeys
  · exact key (n := 0x12) ‹_› (set_judged p s).obeys
  · exact key (n := 0x13) ‹_› (query_judged p s).obeys
  · exact key (n := 0x14) ‹_› (tally_judged p s).obeys
  · exact ⟨_, _, .refused rfl, rfl⟩

/-- A whole frame that a part can take up is judged (R166). -/
theorem exec_unknownCommand_listening {s : State} (h : Listening s) (addr kind : Byte) {p : List Byte}
    (hl : p.length ≤ 200) : exec (.unknownCommand addr kind p) s = .next (judgeFrame addr kind p s) := by
  obtain ⟨hs, htx, hrx⟩ := h
  refine (live_awake s hs).trans (congrArg _ (if_pos ⟨htx, hrx, ?_⟩))
  exact hl

/-- Settles O39: a command that is heard is judged as the state stands, and what it is judged to be is its reply. -/
theorem refusedChangesNothingTakenClosesTheWindow : Obligations.RefusedChangesNothingTakenClosesTheWindow := by
  intro s t addr kind p h hl hm he
  obtain ⟨hlisten, hdue, -⟩ := id h
  obtain ⟨replyOnly, cmd, hobeys, hjudge⟩ := judgeFrame_obeys hm addr p s
  rw [exec_unknownCommand_listening hlisten addr kind hl, hjudge, answer, route_heard s h] at he
  obtain rfl := Host.Outcome.next.inj he
  refine ⟨(cmd s).2.result, (cmd s).2.payload, rfl, ?_⟩
  obtain (⟨e, htaken, hr⟩ | ⟨htaken, hacts⟩) | ⟨hdue', -⟩ := hobeys
  · rw [hr]
    exact ⟨fun _ => rfl, fun _ => ⟨rfl, rfl⟩, fun hc => absurd hc (by simp [refuse, htaken]), fun _ => rfl⟩
  · exact ⟨hacts.clock, fun hc => absurd hc (by simp [htaken]),
      fun _ h1 hw hput hget => hacts.closed ⟨h1, hw, hput, hget⟩, hacts.poll⟩
  · exact absurd hdue' (by simp [hdue])

/-! ### The guard of the operating state -/

/-- From `s` to `t` the queue of commands is kept and the cold flag is not set; and, where one command at most has been
at work, a change of the operating state closes the window and enters RUN only under the conditions of GO RUN, after the
warm reset that was owed. -/
structure Guarded (alone : Prop) (s t : State) : Prop where
  pending : t.pending = s.pending
  cold : s.ctl.cold = false → t.ctl.cold = false
  change : alone → t.ctl.op ≠ s.ctl.op → t.link.window = none ∧
    (t.ctl.op = .run → ∃ u : State, (u = s ∨ (s.ctl.resetDue = true ∧ exec .warmReset s = .next u)) ∧ MayRun u)

section
variable {alone : Prop} {kind : Byte} {s t : State} {r : State × Answer}

theorem Calm.guarded (h : Calm s t) : Guarded alone s t where
  pending := h.pending
  cold hc := h.cold.trans hc
  change _ hne := by
    obtain ho | ⟨hw, ho⟩ := h.op
    · exact absurd ho hne
    · exact ⟨hw, fun hr => absurd hr ho⟩

theorem Judged.guarded (h : Judged kind s r) : Guarded alone s r.1 := by
  obtain ⟨e, -, rfl⟩ | ⟨-, h⟩ := h
  · exact (Calm.refl s).guarded
  · refine ⟨h.pending, h.cold, fun _ hne => ?_⟩
    obtain ho | ⟨hw, hr⟩ := h.op
    · exact absurd ho hne
    · exact ⟨hw, fun ho => ⟨s, .inl rfl, hr ho⟩⟩

/-- After the warm reset that is owed the window is closed, and a command that closes it opens none (R161, R162). -/
theorem Judged.guarded_after_reset (hs : Awake s) (hdue : s.ctl.resetDue = true) (hk : ClosesWindow kind)
    (h : Judged kind (warmReset s) r) : Guarded alone s r.1 := by
  have hreset := warmReset_calm s
  have hexec : exec .warmReset s = .next (warmReset s) := by
    rw [exec_warmReset hs, if_pos ((warmResetReady_iff s).2 (.inl hdue))]
  obtain ⟨e, -, rfl⟩ | ⟨-, h⟩ := h
  · exact hreset.guarded
  · refine ⟨h.pending.trans hreset.pending, fun hc => h.cold (hreset.cold.trans hc), fun _ _ => ⟨h.closed hk, ?_⟩⟩
    intro hrun
    obtain ho | ⟨-, hr⟩ := h.op
    · exact absurd (ho.symm.trans hrun) (warmReset_op_ne_run s)
    · exact ⟨warmReset s, .inr ⟨hdue, hexec⟩, hr hrun⟩

theorem Obeys.guarded (hs : Awake s) (h : Obeys kind s r) : Guarded alone s r.1 := by
  obtain h | ⟨hdue, hk, h⟩ := h
  · exact h.guarded
  · exact h.guarded_after_reset hs hdue hk

/-- The transmitter has no part in the guard. -/
theorem Guarded.giveReply (h : Guarded alone s t) (a : Answer) : Guarded alone s (giveReply kind a t) :=
  ⟨h.pending, h.cold, h.change⟩

theorem answer_guarded (hs : Awake s) {cmd : State → State × Answer} (h : Obeys kind s (cmd s)) (addr : Byte)
    (replyOnly : Bool) : Guarded alone s (answer addr kind replyOnly cmd s) := by
  unfold answer
  split
  · exact (Calm.refl s).guarded
  · split
    · exact (Calm.refl s).guarded
    · exact h.guarded hs
  · exact (h.guarded hs).giveReply _

theorem judgeFrame_guarded (hs : Awake s) (addr kind : Byte) (p : List Byte) :
    Guarded alone s (judgeFrame addr kind p s) := by
  cases hm : kind.msb with
  | true =>
    rw [judgeFrame, if_pos hm]
    exact (Calm.refl s).guarded
  | false =>
    obtain ⟨replyOnly, cmd, hobeys, hjudge⟩ := judgeFrame_obeys hm addr p s
    rw [hjudge]
    exact answer_guarded hs hobeys addr replyOnly

end

/-! ### Loose bytes -/

/-- What any number of commands keep: the queue of commands, and the cold flag clear. -/
def ColdKept (s t : State) : Prop := t.pending = s.pending ∧ (s.ctl.cold = false → t.ctl.cold = false)

theorem ColdKept.trans {s t u : State} (h : ColdKept s t) (h' : ColdKept t u) : ColdKept s u :=
  ⟨h'.1.trans h.1, fun hc => h'.2 (h.2 hc)⟩

theorem Judged.coldKept {kind : Byte} {s : State} {r : State × Answer} (h : Judged kind s r) : ColdKept s r.1 := by
  have hg := h.guarded (alone := False)
  exact ⟨hg.pending, hg.cold⟩

theorem Obeys.coldKept {kind : Byte} {s : State} {r : State × Answer} (h : Obeys kind s r) : ColdKept s r.1 := by
  obtain h | ⟨-, -, h⟩ := h
  · exact h.coldKept
  · have hreset := warmReset_calm s
    exact ColdKept.trans ⟨hreset.pending, fun hc => hreset.cold.trans hc⟩ h.coldKept

theorem keepsCmd_of_judged {kind : Byte} {q : State} {cmd : State → State × Answer}
    (h : ∀ s, Judged kind s (cmd s)) : KeepsCmd (ColdKept q) cmd := fun s hs => hs.trans (h s).coldKept

theorem keepsCmd_of_obeys {kind : Byte} {q : State} {cmd : State → State × Answer}
    (h : ∀ s, Obeys kind s (cmd s)) : KeepsCmd (ColdKept q) cmd := fun s hs => hs.trans (h s).coldKept

theorem linkBlind_coldKept (q : State) : LinkBlind (ColdKept q) where
  setFrameRx _ _ h := h
  controlError _ _ h := h
  giveReply _ _ _ h := h

theorem commands_keep_cold (q : State) : CommandsKeep (ColdKept q) where
  poll p := keepsCmd_of_judged (poll_judged p)
  notices p := keepsCmd_of_judged (notices_judged p)
  rearm p := keepsCmd_of_judged (rearm_judged p)
  goRun p := keepsCmd_of_obeys (goRun_obeys p)
  goStandby p := keepsCmd_of_obeys (goStandby_obeys p)
  purge p := keepsCmd_of_obeys (purge_obeys p)
  restart p := keepsCmd_of_obeys (restart_obeys p)
  clearCold p := keepsCmd_of_obeys (clearCold_obeys p)
  dryOn p := keepsCmd_of_obeys (dryOn_obeys p)
  dryOff p := keepsCmd_of_obeys (dryOff_obeys p)
  window p := keepsCmd_of_judged (window_judged p)
  put p := keepsCmd_of_judged (put_judged p)
  get p := keepsCmd_of_judged (get_judged p)
  requestSwap ls := keepsCmd_of_judged fun s => requestSwap_judged s ls
  swapCancel p := keepsCmd_of_judged (swapCancel_judged p)
  nozzleRead p := keepsCmd_of_judged (nozzleRead_judged p)
  nozzleWrite p := keepsCmd_of_judged (nozzleWrite_judged p)
  test p := keepsCmd_of_judged (test_judged p)
  lane p := keepsCmd_of_judged (lane_judged p)
  query p := keepsCmd_of_judged (query_judged p)
  tally p := keepsCmd_of_judged (tally_judged p)
  setAirTrim p := keepsCmd_of_judged fun s => setSetting_judged p s
  setLinePeriod p := keepsCmd_of_judged (setLinePeriod_judged p)
  setMaxAge p := keepsCmd_of_judged fun s => setSetting_judged p s
  setLeadMin p := keepsCmd_of_judged fun s => setSetting_judged p s
  setWidthMin p := keepsCmd_of_judged fun s => setSetting_judged p s
  setWidthMax p := keepsCmd_of_judged fun s => setSetting_judged p s
  setWidthCap p := keepsCmd_of_judged fun s => setSetting_judged p s
  setValveGap p := keepsCmd_of_judged (setValveGap_judged p)
  setReplyWait p := keepsCmd_of_judged fun s => setSetting_judged p s
  setMissLimit p := keepsCmd_of_judged fun s => setSetting_judged p s
  setWindDownLimit p := keepsCmd_of_judged fun s => setSetting_judged p s
  setGroupAddress p := keepsCmd_of_judged (setGroupAddress_judged p)
  setNoticeMask p := keepsCmd_of_judged (setNoticeMask_judged p)

theorem frameBytesIn_keeps_cold (bytes : List Byte) (s : State) : ColdKept s (frameBytesIn bytes s) :=
  frameBytesIn_keeps (linkBlind_coldKept s) (commands_keep_cold s) bytes s ⟨rfl, id⟩

theorem frameGap_keeps_cold (s : State) : ColdKept s (frameGap s) :=
  frameGap_keeps (linkBlind_coldKept s) s ⟨rfl, id⟩

theorem live_loose_guarded {alone : Prop} {f : State → State} (hf : ∀ s, ColdKept s (f s)) (ha : ¬alone) {s t : State}
    (h : live f s = .next t) : Guarded alone s t := by
  obtain ⟨hp, hc⟩ := live_keeps (P := ColdKept s) (fun u hu => hu.trans (hf u)) ⟨rfl, id⟩ h
  exact ⟨hp, hc, fun h => absurd h ha⟩

/-! ### Every event -/

/-- A frame that a row brings is judged whole, or its bytes go to a receiver that loses them or is no longer HUNTING
(R166). -/
theorem receiveFrame_guarded {c : Instr} {s t : State} {addr kind : Byte} {p : List Byte} {judge : State → State}
    (hj : Awake s → Guarded (OneFrame c s) s (judge s)) (h : live (receiveFrame addr kind p judge) s = .next t)
    (hw : c.wellFormed = framePayload p) : Guarded (OneFrame c s) s t := by
  by_cases hs : Awake s
  · obtain rfl := Host.Outcome.next.inj ((live_awake s hs).symm.trans h)
    unfold receiveFrame
    split
    · exact hj hs
    · rename_i hbusy
      obtain ⟨hp, hc⟩ := frameBytesIn_keeps_cold (frameBytes addr kind p) s
      refine ⟨hp, hc, fun ⟨hwf, hrx, _⟩ hne => absurd ?_ hne⟩
      rw [hw] at hwf
      have htx : s.link.tx ≠ .idle := fun htx => hbusy ⟨htx, hrx, of_decide_eq_true hwf⟩
      rw [frameBytesIn_lost s _ (.inl htx)]
  · obtain rfl := Host.Outcome.next.inj ((live_held s (by simpa using hs)).symm.trans h)
    exact (Calm.refl s).guarded

/-- The row of a host command. -/
theorem hostCommand_guarded {c : Instr} {s t : State} {addr kind : Byte} {p : List Byte} {replyOnly : Bool}
    {cmd : State → State × Answer} (h : hostCommand addr kind p replyOnly cmd s = .next t) (hc : Obeys kind s (cmd s))
    (hw : c.wellFormed = framePayload p) : Guarded (OneFrame c s) s t :=
  receiveFrame_guarded (fun hs => answer_guarded hs hc addr replyOnly) h hw

/-- An input released changes its level alone. -/
theorem execEstopRelease_calm {s t : State} (h : execEstopRelease s = .next t) : Calm s t :=
  live_calm (f := fun s => { s with ctl := { s.ctl with estop := false } }) (fun _ => .of_same rfl rfl rfl rfl) h

theorem execAirlowRelease_calm {s t : State} (h : execAirlowRelease s = .next t) : Calm s t :=
  live_calm (f := fun s => { s with ctl := { s.ctl with airlow := false } }) (fun _ => .of_same rfl rfl rfl rfl) h

theorem execLsyncPulseEnd_calm {s t : State} (h : execLsyncPulseEnd s = .next t) : Calm s t :=
  lsyncPulseEnd_keeps (P := Calm s) (fun _ hu => hu.trans (.of_same rfl rfl rfl rfl)) (.refl s) h

theorem execColdResetEnd_calm {straps : BitVec 5} {estop airlow : Bool} {s t : State}
    (h : execColdResetEnd straps estop airlow s = .next t) : Calm s t := by
  obtain rfl := Host.Outcome.next.inj h
  exact .ite (coldResetEnd_calm straps estop airlow s) (.refl s)

theorem execControlResyncTimeout_calm {s t : State} (h : execControlResyncTimeout s = .next t) : Calm s t :=
  have hrx : ∀ r u, Calm u (setFrameRx r u) := fun _ _ => .of_same rfl rfl rfl rfl
  live_calm (fun u => .ite (hrx _ u) (.refl u)) h

/-- Every event but RSTN_LOW is guarded: those of the part and its inputs are calm, and a row of a host command is one
frame. -/
theorem exec_guarded {c : Instr} {s t : State} (hc : c ≠ .rstnLow) (h : exec c s = .next t) :
    Guarded (OneFrame c s) s t := by
  cases c with
  | rstnLow => exact absurd rfl hc
  | coldResetEnd straps estop airlow => exact (execColdResetEnd_calm h).guarded
  | lsyncPulse => exact (execLsyncPulse_calm h).guarded
  | sightingRecord bytes => exact (live_calm (recordBytesIn_calm bytes) h).guarded
  | verdictRecord bytes => exact (live_calm (recordBytesIn_calm bytes) h).guarded
  | partialRecordTimeout bytes =>
    exact (live_calm (fun s => (recordBytesIn_calm bytes s).trans (recordGap_calm _)) h).guarded
  | resyncIdleTimeout => exact (execResyncIdleTimeout_calm h).guarded
  | plannerTake => exact (live_calm plannerTake_calm h).guarded
  | ageStep => exact (live_calm (planStep_calm ageStep_calm _) h).guarded
  | bankStep => exact (live_calm (planStep_calm (fun _ => setPlan_calm _) _) h).guarded
  | bandStep => exact (live_calm (planStep_calm bandStep_calm _) h).guarded
  | nozzleSetStep => exact (live_calm (planStep_calm nozzleSetStep_calm _) h).guarded
  | sizeBandStep => exact (live_calm (planStep_calm (fun _ => setPlan_calm _) _) h).guarded
  | widthStep => exact (live_calm (planStep_calm widthStep_calm _) h).guarded
  | flightStep => exact (live_calm (planStep_calm (fun _ s => setPlan_calm _ s) _) h).guarded
  | seenTimeStep => exact (live_calm (planStep_calm (fun _ s => setPlan_calm _ s) _) h).guarded
  | perNozzleTimesStep => exact (live_calm (planStep_calm (fun _ s => setPlan_calm _ s) _) h).guarded
  | leadStep => exact (live_calm (planStep_calm leadStep_calm _) h).guarded
  | confidenceStep => exact (live_calm (planStep_calm confidenceStep_calm _) h).guarded
  | placement => exact (live_calm (planStep_calm placement_calm _) h).guarded
  | deadlineExpiry chute tag => exact (live_calm (deadlineExpiry_calm chute tag) h).guarded
  | entryStart g => exact (live_calm (entryStart_calm g) h).guarded
  | entryEnd g => exact (live_calm (entryEnd_calm g) h).guarded
  | grant chute => exact (execGrant_calm h).guarded
  | commandSent chute => exact (live_calm (commandSent_calm chute) h).guarded
  | replyWaitExpiry chute => exact (live_calm (replyWaitExpiry_calm chute) h).guarded
  | valveReply chute lane bytes => exact (live_calm (valveReply_calm chute lane bytes) h).guarded
  | estopAssertion => exact (live_calm estopAssertion_calm h).guarded
  | estopRelease => exact (execEstopRelease_calm h).guarded
  | airlowAssertion => exact (live_calm airlowAssertion_calm h).guarded
  | airlowRelease => exact (execAirlowRelease_calm h).guarded
  | purgeTurn => exact (live_calm purgeTurn_calm h).guarded
  | purgeComplete => exact (live_calm concludePurge_calm h).guarded
  | windDownLimitExpiry => exact (live_calm windDownLimitExpiry_calm h).guarded
  | warmReset => exact (execWarmReset_calm h).guarded
  | dryFlagSet => exact (live_calm concludeDry_calm h).guarded
  | controlError bytes =>
    exact live_loose_guarded (frameBytesIn_keeps_cold bytes) (fun ⟨_, _, hloose⟩ => (hloose bytes).1 rfl) h
  | frameIdleTimeout bytes =>
    exact live_loose_guarded (fun s => (frameBytesIn_keeps_cold bytes s).trans (frameGap_keeps_cold _))
      (fun ⟨_, _, hloose⟩ => (hloose bytes).2 rfl) h
  | controlResyncTimeout => exact (execControlResyncTimeout_calm h).guarded
  | replyTurnaroundEnd => exact (live_calm replyTurnaroundEnd_calm h).guarded
  | replySent => exact (live_calm replySent_calm h).guarded
  | lsyncPulseEnd => exact (execLsyncPulseEnd_calm h).guarded
  | unknownCommand addr kind p => exact receiveFrame_guarded (fun hs => judgeFrame_guarded hs addr kind p) h rfl
  | poll _ p => exact hostCommand_guarded h (poll_judged p s).obeys rfl
  | notices _ p => exact hostCommand_guarded h (notices_judged p s).obeys rfl
  | rearm _ p => exact hostCommand_guarded h (rearm_judged p s).obeys rfl
  | goRun _ p => exact hostCommand_guarded h (goRun_obeys p s) rfl
  | goStandby _ p => exact hostCommand_guarded h (goStandby_obeys p s) rfl
  | purge _ p => exact hostCommand_guarded h (purge_obeys p s) rfl
  | restart _ p => exact hostCommand_guarded h (restart_obeys p s) rfl
  | clearCold _ p => exact hostCommand_guarded h (clearCold_obeys p s) rfl
  | dryOn _ p => exact hostCommand_guarded h (dryOn_obeys p s) rfl
  | dryOff _ p => exact hostCommand_guarded h (dryOff_obeys p s) rfl
  | window _ p => exact hostCommand_guarded h (window_judged p s).obeys rfl
  | put _ p => exact hostCommand_guarded h (put_judged p s).obeys rfl
  | get _ p => exact hostCommand_guarded h (get_judged p s).obeys rfl
  | swapAtLine _ p => exact hostCommand_guarded h (swapAtLine_judged p s).obeys rfl
  | swapAtNextLine _ p => exact hostCommand_guarded h (swapAtNextLine_judged p s).obeys rfl
  | swapCancel _ p => exact hostCommand_guarded h (swapCancel_judged p s).obeys rfl
  | nozzleRead _ p => exact hostCommand_guarded h (nozzleRead_judged p s).obeys rfl
  | nozzleWrite _ p => exact hostCommand_guarded h (nozzleWrite_judged p s).obeys rfl
  | test _ p => exact hostCommand_guarded h (test_judged p s).obeys rfl
  | lane _ p => exact hostCommand_guarded h (lane_judged p s).obeys rfl
  | setAirTrim _ p => exact hostCommand_guarded h (setSetting_judged p s).obeys rfl
  | setLinePeriod _ p => exact hostCommand_guarded h (setLinePeriod_judged p s).obeys rfl
  | setMaxAge _ p => exact hostCommand_guarded h (setSetting_judged p s).obeys rfl
  | setLeadMin _ p => exact hostCommand_guarded h (setSetting_judged p s).obeys rfl
  | setWidthMin _ p => exact hostCommand_guarded h (setSetting_judged p s).obeys rfl
  | setWidthMax _ p => exact hostCommand_guarded h (setSetting_judged p s).obeys rfl
  | setWidthCap _ p => exact hostCommand_guarded h (setSetting_judged p s).obeys rfl
  | setValveGap _ p => exact hostCommand_guarded h (setValveGap_judged p s).obeys rfl
  | setReplyWait _ p => exact hostCommand_guarded h (setSetting_judged p s).obeys rfl
  | setMissLimit _ p => exact hostCommand_guarded h (setSetting_judged p s).obeys rfl
  | setWindDownLimit _ p => exact hostCommand_guarded h (setSetting_judged p s).obeys rfl
  | setGroupAddress _ p => exact hostCommand_guarded h (setGroupAddress_judged p s).obeys rfl
  | setNoticeMask _ p => exact hostCommand_guarded h (setNoticeMask_judged p s).obeys rfl
  | query _ p => exact hostCommand_guarded h (query_judged p s).obeys rfl
  | tally _ p => exact hostCommand_guarded h (tally_judged p s).obeys rfl

/-- Settles O40: every event but RSTN_LOW is guarded, and RSTN_LOW is the cold reset, which ends in STANDBY with the
window closed. -/
theorem stateChangesAreGuarded : Obligations.StateChangesAreGuarded := by
  intro c s t h
  by_cases hc : c = .rstnLow
  · subst hc
    obtain rfl := Host.Outcome.next.inj h
    exact ⟨rfl, fun hne => absurd rfl hne, fun _ _ => ⟨rfl, fun hr => absurd hr (by simp [heldInReset])⟩⟩
  · have hg := exec_guarded hc h
    exact ⟨hg.pending, fun _ => hg.cold, hg.change⟩

end Sys2Proof.Machine
end

section
/-! The bank step and the band step of the planner (O10), and the three forms of SWAP (O46): R31, R36, R42, R43, R185. -/

namespace Sys2Proof.Machine

/-! ### The bank and the band of a sighting -/

/-- With no settle running the bank is WORKING (R36). -/
theorem bankFor_of_no_settle {b : TableBanks} (h : b.lastSwap = none) (maxAge : Nat) (n : Line) (age : Nat) :
    bankFor b maxAge n age = b.working := by
  unfold bankFor
  rw [h]

/-- While a settle runs the age of the swap line decides (R36). -/
theorem bankFor_of_settle {b : TableBanks} {ls : Line} (h : b.lastSwap = some ls) (maxAge : Nat) (n : Line) (age : Nat) :
    bankFor b maxAge n age =
      if maxAge < (n - ls).toNat ∨ (n - ls).toNat < age then otherBank b.working else b.working := by
  unfold bankFor ageOf TableBanks.staging
  rw [h, ite_or]

/-- A sighting whose columns miss the band ends BLIND, any other goes on with its columns clipped (R43). -/
theorem endWindDown_bandStep {r : PlanRecord} {b : Bank} (hb : r.bank = some b) (s : State) :
    endWindDown (bandStep r s) =
      let e := (s.banks.data b).chuteEntry r.sighting.chute
      let c0 := max r.sighting.c0 e.bandFirst
      let c1 := min r.sighting.c1 e.bandLast
      if c1 < c0 then endWindDown (endWith r.sighting .blind s)
      else setPlan { r with c0 := c0, c1 := c1, column := c0, served := [], next := .nozzleSet } s := by
  have hdata : planData r s = s.banks.data b := by rw [planData, hb, Option.getD_some]
  unfold bandStep
  simp only [hdata]
  split
  · rfl
  · exact endWindDown_of_planning _ rfl

/-- Settles O10: neither step ends a wind-down but where the band step ends the sighting. -/
theorem bankAndBandAreFixed : Obligations.BankAndBandAreFixed := by
  intro s r hs hp
  refine ⟨fun hn => (live_awake s hs).trans (congrArg _ ?_), fun b hn hb => (live_awake s hs).trans (congrArg _ ?_)⟩
  · rw [planStep_of_next hp hn, endWindDown_of_planning (bankStep r s) rfl]
    cases hl : s.banks.lastSwap with
    | none => rw [bankStep, bankFor_of_no_settle hl, setPlan]
    | some ls => rw [bankStep, bankFor_of_settle hl, setPlan]
  · rw [planStep_of_next hp hn, endWindDown_bandStep hb]
    rfl

/-! ### SWAP -/

/-- A two-byte field, most significant byte first (R185). -/
theorem toNat_append_byte (b1 b0 : Byte) : (b1 ++ b0).toNat = num16 b1 b0 := by
  rw [BitVec.toNat_append, ← Nat.shiftLeft_add_eq_or_of_lt b0.isLt, Nat.shiftLeft_eq, num16]

theorem append_byte_eq_ofNat (b1 b0 : Byte) : (b1 ++ b0 : Line) = BitVec.ofNat 16 (num16 b1 b0) := by
  rw [← toNat_append_byte, BitVec.ofNat_toNat, BitVec.setWidth_eq]

/-- The answer to a SWAP at a line that is resolved, its checks in their order (R31). -/
theorem giveReply_requestSwap (ls : Line) (s : State) :
    giveReply 0x0D (requestSwap ls s).2 (requestSwap ls s).1 =
      if s.ctl.op ≠ .standby ∧ s.ctl.op ≠ .run then replied 0x0D .notNow [] s
      else if s.banks.lastSwap.isSome = true then replied 0x0D .settling [] s
      else if (s.banks.data (otherBank s.banks.working)).loaded ≠ ⟨true, true, true, true⟩ then
        replied 0x0D .notLoaded [] s
      else replied 0x0D .done (bytes16 ls.toNat) { s with
        banks := { s.banks with pendingSwap := some ls }, link := { s.link with window := none } } := by
  have hload : (!(s.banks.data s.banks.staging).loaded.all) = true ↔
      (s.banks.data (otherBank s.banks.working)).loaded ≠ ⟨true, true, true, true⟩ := by
    rw [Bool.not_eq_true', ← Bool.not_eq_true, loadedAll_iff]
    rfl
  unfold requestSwap
  split
  · rfl
  · split
    · rfl
    · by_cases h : (s.banks.data (otherBank s.banks.working)).loaded ≠ ⟨true, true, true, true⟩
      · rw [if_pos (hload.2 h), if_pos h]
        rfl
      · rw [if_neg (mt hload.1 h), if_neg h]
        rfl

/-- Settles O46: the two forms that request a swap differ in the line alone. -/
theorem swapCommandsSetThePendingLine : Obligations.SwapCommandsSetThePendingLine := by
  intro s addr l1 l0 h request d
  refine ⟨?_, ?_, ?_⟩
  · refine (hostCommand_heard s 0x0D false _ h (by simp)).trans (congrArg _ ?_)
    rw [cmdSwapAtLine, append_byte_eq_ofNat]
    exact giveReply_requestSwap _ s
  · refine (hostCommand_heard s 0x0D false _ h (by simp)).trans (congrArg _ ?_)
    exact giveReply_requestSwap _ s
  · refine (hostCommand_heard s 0x0D false _ h (by simp)).trans (congrArg _ ?_)
    unfold cmdSwapCancel
    simp only
    split <;> rfl

end Sys2Proof.Machine
end

section
/-! The entries of the four tables: their layouts, their ranges, and what a bank holds of them (R21 to R24, R26, R28,
R185). -/

namespace Sys2Proof.Machine

/-! ### Numbers and their bytes (R185) -/

theorem toNat_byte {n : Nat} (h : n < 256) : (BitVec.ofNat 8 n).toNat = n :=
  (BitVec.toNat_ofNat n 8).trans (Nat.mod_eq_of_lt h)

theorem num16_bytes {n : Nat} (h : n < 65536) : num16 (BitVec.ofNat 8 (n / 256)) (BitVec.ofNat 8 n) = n := by
  simp only [num16, BitVec.toNat_ofNat]
  omega

theorem signed16_bytes {n : Int} (hlo : -32768 ≤ n) (hhi : n < 32768) :
    signed16 (BitVec.ofNat 8 ((BitVec.ofInt 16 n).toNat / 256)) (BitVec.ofNat 8 (BitVec.ofInt 16 n).toNat) = n := by
  have hbytes : (BitVec.ofNat 8 ((BitVec.ofInt 16 n).toNat / 256) ++ BitVec.ofNat 8 (BitVec.ofInt 16 n).toNat)
      = BitVec.ofInt 16 n :=
    BitVec.eq_of_toNat_eq ((toNat_append_byte _ _).trans (num16_bytes (BitVec.isLt _)))
  rw [signed16, hbytes]
  exact BitVec.toInt_ofInt_eq_self (by decide) hlo hhi

/-! ### Clamping -/

theorem clampNat_of_mem {lo hi n : Nat} (h1 : lo ≤ n) (h2 : n ≤ hi) : clampNat lo hi n = n := by
  rw [clampNat_eq (h1.trans h2), min_eq_right h2, max_eq_right h1]

theorem clampInt_of_mem {lo hi n : Int} (h1 : lo ≤ n) (h2 : n ≤ hi) : clampInt lo hi n = n := by
  rw [clampInt_eq (h1.trans h2), min_eq_right h2, max_eq_right h1]

theorem clampNat_mem {lo hi : Nat} (h : lo ≤ hi) (n : Nat) : lo ≤ clampNat lo hi n ∧ clampNat lo hi n ≤ hi := by
  rw [clampNat_eq h]
  exact ⟨le_max_left _ _, max_le h (min_le_left _ _)⟩

theorem clampInt_mem {lo hi : Int} (h : lo ≤ hi) (n : Int) : lo ≤ clampInt lo hi n ∧ clampInt lo hi n ≤ hi := by
  rw [clampInt_eq h]
  exact ⟨le_max_left _ _, max_le h (min_le_left _ _)⟩

/-- A field is kept as it came exactly when it lies in its range (R28). -/
theorem clampNat_beq {lo hi : Nat} (h : lo ≤ hi) (n : Nat) : (clampNat lo hi n == n) = decide (lo ≤ n ∧ n ≤ hi) := by
  rw [beq_eq_decide, decide_eq_decide]
  exact ⟨fun he => he ▸ clampNat_mem h n, fun ⟨h1, h2⟩ => clampNat_of_mem h1 h2⟩

theorem clampInt_beq {lo hi : Int} (h : lo ≤ hi) (n : Int) : (clampInt lo hi n == n) = decide (lo ≤ n ∧ n ≤ hi) := by
  rw [beq_eq_decide, decide_eq_decide]
  exact ⟨fun he => he ▸ clampInt_mem h n, fun ⟨h1, h2⟩ => clampInt_of_mem h1 h2⟩

/-! ### The layouts -/

theorem readEntry_chute (f1 f0 t1 t0 r x1 x0 y1 y0 cap learn : Byte) :
    readEntry .chute [f1, f0, t1, t0, r, x1, x0, y1, y0, cap, learn] = some (.chute
      { flight := max 2000 (min 60000 (num16 f1 f0))
        trim := max (-512) (min 511 (signed16 t1 t0))
        lag := max (-16) (min 16 r.toInt)
        bandFirst := min 639 (num16 x1 x0)
        bandLast := min 639 (num16 y1 y0)
        airCap := max 1 (min 40 cap.toNat)
        learning := learn.getLsbD 0 },
      !decide (2000 ≤ num16 f1 f0 ∧ num16 f1 f0 ≤ 60000 ∧ -512 ≤ signed16 t1 t0 ∧ signed16 t1 t0 ≤ 511 ∧
        -16 ≤ r.toInt ∧ r.toInt ≤ 16 ∧ num16 x1 x0 ≤ 639 ∧ num16 y1 y0 ≤ 639 ∧ 1 ≤ cap.toNat ∧ cap.toNat ≤ 40)) := by
  unfold readEntry
  simp only [clampNat_beq, clampInt_beq, Nat.reduceLeDiff, Int.reduceNeg, Int.reduceLE]
  simp only [clampNat_eq, clampInt_eq, Nat.reduceLeDiff, Int.reduceNeg, Int.reduceLE, Nat.zero_le, true_and, max_eq_right,
    Bool.decide_and, Bool.and_assoc]

theorem readEntry_cls (o1 o0 p th d : Byte) : readEntry .cls [o1, o0, p, th, d] = some (.cls
      { offset := max (-2000) (min 2000 (signed16 o1 o0))
        prio := min 7 p.toNat
        threshold := th.toNat
        policy := if d = 1 then .fire else .pass },
      !decide (-2000 ≤ signed16 o1 o0 ∧ signed16 o1 o0 ≤ 2000 ∧ p.toNat ≤ 7 ∧ d.toNat ≤ 1)) := by
  unfold readEntry policyOf
  simp only [clampNat_beq, clampInt_beq, Int.reduceNeg, Int.reduceLE, Nat.zero_le]
  simp only [clampNat_eq, clampInt_eq, Int.reduceNeg, Int.reduceLE, Nat.zero_le, true_and, max_eq_right,
    Bool.decide_and, Bool.and_assoc]

theorem readEntry_pulse (w1 w0 : Byte) : readEntry .pulse [w1, w0] =
    some (.pulse (min 10000 (num16 w1 w0)), !decide (num16 w1 w0 ≤ 10000)) := by
  unfold readEntry
  simp only [clampNat_beq, Nat.zero_le, true_and]
  simp only [clampNat_eq, Nat.zero_le, max_eq_right]

/-! ### Entries as stored -/

/-- The table that an entry is of. -/
def TableEntry.table : TableEntry → TableId
  | .columnMap _ => .columnMap
  | .chute _ => .chute
  | .cls _ => .cls
  | .pulse _ => .pulse

/-- The fields of an entry lie in their ranges (R21 to R24). -/
def TableEntry.InRange : TableEntry → Prop
  | .columnMap e => (∀ n ∈ e.primary, n < 40) ∧ ∀ n ∈ e.alternate, n < 40
  | .chute e =>
    (2000 ≤ e.flight ∧ e.flight ≤ 60000) ∧ (-512 ≤ e.trim ∧ e.trim ≤ 511) ∧ (-16 ≤ e.lag ∧ e.lag ≤ 16) ∧
      e.bandFirst ≤ 639 ∧ e.bandLast ≤ 639 ∧ 1 ≤ e.airCap ∧ e.airCap ≤ 40
  | .cls e => (-2000 ≤ e.offset ∧ e.offset ≤ 2000) ∧ e.prio ≤ 7 ∧ e.threshold < 256
  | .pulse w => w ≤ 10000

theorem nozzleField_lt {b : Byte} {n : Nat} (h : n ∈ nozzleField b) : n < 40 := by
  unfold nozzleField at h
  split at h
  · obtain rfl := Option.mem_some.1 h
    assumption
  · simp at h

/-- What is read of a PUT is an entry of the window's table, of that table's LENGTH, with its fields in range (R28,
R186). -/
theorem readEntry_inRange {table : TableId} {payload : List Byte} {e : TableEntry} {replaced : Bool}
    (h : readEntry table payload = some (e, replaced)) :
    e.table = table ∧ payload.length = entryLength table ∧ e.InRange := by
  unfold readEntry at h
  split at h
  case h_1 =>
    obtain ⟨rfl, -⟩ := Prod.mk.inj (Option.some.inj h)
    exact ⟨rfl, rfl, fun _ => nozzleField_lt, fun _ => nozzleField_lt⟩
  case h_2 =>
    obtain ⟨rfl, -⟩ := Prod.mk.inj (Option.some.inj h)
    exact ⟨rfl, rfl, clampNat_mem (by decide) _, clampInt_mem (by decide : (-512 : Int) ≤ 511) _,
      clampInt_mem (by decide : (-16 : Int) ≤ 16) _, (clampNat_mem (Nat.zero_le 639) _).2,
      (clampNat_mem (Nat.zero_le 639) _).2, clampNat_mem (by decide) _⟩
  case h_3 =>
    obtain ⟨rfl, -⟩ := Prod.mk.inj (Option.some.inj h)
    exact ⟨rfl, rfl, clampInt_mem (by decide : (-2000 : Int) ≤ 2000) _, (clampNat_mem (Nat.zero_le 7) _).2,
      BitVec.isLt _⟩
  case h_4 =>
    obtain ⟨rfl, -⟩ := Prod.mk.inj (Option.some.inj h)
    exact ⟨rfl, rfl, (clampNat_mem (Nat.zero_le 10000) _).2⟩
  case h_5 => cases h

theorem nozzleField_nozzleByte {n : Option Nat} (h : ∀ k ∈ n, k < 40) : nozzleField (nozzleByte n) = n := by
  cases n with
  | none => rfl
  | some k =>
    have hk : k < 40 := h k rfl
    have hbyte : k % 256 = k := Nat.mod_eq_of_lt (by omega)
    simp [nozzleField, nozzleByte, Config.nozzlesPerChute, hbyte, hk]

/-- An entry in range is sent in the layout that it is read in, and comes back as it is (R28). -/
theorem readEntry_entryBytes {e : TableEntry} (h : e.InRange) : readEntry e.table (entryBytes e) = some (e, false) := by
  cases e with
  | columnMap e =>
    obtain ⟨hp, ha⟩ := h
    simp only [TableEntry.table, entryBytes, readEntry, nozzleField_nozzleByte hp, nozzleField_nozzleByte ha]
  | chute e =>
    obtain ⟨⟨hf, hf'⟩, ⟨ht, ht'⟩, ⟨hl, hl'⟩, hx, hy, hc, hc'⟩ := h
    have hlag : (BitVec.ofInt 8 e.lag).toInt = e.lag := BitVec.toInt_ofInt_eq_self (by decide) (by omega) (by omega)
    have hcap : (BitVec.ofNat 8 e.airCap).toNat = e.airCap := toNat_byte (by omega)
    have hlearn : (bit e.learning).getLsbD 0 = e.learning := by cases e.learning <;> rfl
    refine (readEntry_chute _ _ _ _ _ _ _ _ _ _ _).trans ?_
    rw [num16_bytes (by omega), num16_bytes (by omega), num16_bytes (by omega), signed16_bytes (by omega) (by omega),
      hlag, hcap, hlearn]
    simp [*]
  | cls e =>
    obtain ⟨⟨ho, ho'⟩, hp, hth⟩ := h
    have hprio : (BitVec.ofNat 8 e.prio).toNat = e.prio := toNat_byte (by omega)
    have hthreshold : (BitVec.ofNat 8 e.threshold).toNat = e.threshold := toNat_byte hth
    refine (readEntry_cls _ _ _ _ _).trans ?_
    rw [signed16_bytes (by omega) (by omega), hprio, hthreshold]
    obtain ⟨offset, prio, threshold, policy⟩ := e
    cases policy <;> simp [*]
  | pulse w =>
    have hw : w ≤ 10000 := h
    refine (readEntry_pulse _ _).trans ?_
    rw [num16_bytes (by omega)]
    simp [hw]

/-! ### What a bank holds -/

theorem read_write_same (d : BankData) (i : Nat) (e : TableEntry) : (d.write i e).read e.table i = e := by
  cases e <;> simp [BankData.write, BankData.read, TableEntry.table]

/-- A write leaves every other index of its table and every other table alone. -/
theorem read_write_other (d : BankData) {i j : Nat} {e : TableEntry} {t : TableId} (h : t ≠ e.table ∨ j ≠ i) :
    (d.write i e).read t j = d.read t j := by
  have hother : t = e.table → j ≠ i := fun ht => h.resolve_left (absurd ht)
  cases e with
  | columnMap e =>
    cases t with
    | columnMap => exact congrArg TableEntry.columnMap (Tab.get_set_other _ _ _ (hother rfl))
    | _ => rfl
  | chute e =>
    cases t with
    | chute => exact congrArg TableEntry.chute (Tab.get_set_other _ _ _ (hother rfl))
    | _ => rfl
  | cls e =>
    cases t with
    | cls => exact congrArg TableEntry.cls (Tab.get_set_other _ _ _ (hother rfl))
    | _ => rfl
  | pulse w =>
    cases t with
    | pulse => exact congrArg TableEntry.pulse (Tab.get_set_other _ _ _ (hother rfl))
    | _ => rfl

theorem write_loaded (d : BankData) (i : Nat) (e : TableEntry) : (d.write i e).loaded = d.loaded := by
  cases e <;> rfl

/-- The loaded flags are no part of a table. -/
theorem read_withLoaded (d : BankData) (f : LoadedFlags) (t : TableId) (i : Nat) :
    ({ d with loaded := f } : BankData).read t i = d.read t i := by
  cases t <;> rfl

@[simp] theorem data_setData_same (b : TableBanks) (k : Bank) (d : BankData) : (b.setData k d).data k = d := by
  cases k <;> rfl

theorem data_setData_other (b : TableBanks) {k k' : Bank} (h : k' ≠ k) (d : BankData) :
    (b.setData k d).data k' = b.data k' := by
  cases k with
  | x =>
    cases k' with
    | x => exact absurd rfl h
    | y => rfl
  | y =>
    cases k' with
    | x => rfl
    | y => exact absurd rfl h

@[simp] theorem setData_setData (b : TableBanks) (k : Bank) (d d' : BankData) :
    (b.setData k d).setData k d' = b.setData k d' := by
  cases k <;> rfl

/-- Replacing a bank's data leaves the roles of the banks, the pending swap and the settle alone. -/
theorem setData_eq (b : TableBanks) (k : Bank) (d : BankData) :
    b.setData k d = { b with x := (b.setData k d).x, y := (b.setData k d).y } := by
  cases k <;> rfl

end Sys2Proof.Machine
end

section
/-! WINDOW, PUT and GET (O45): R21 to R24, R26 to R29, R185, R186. -/

namespace Sys2Proof.Machine

/-! ### WINDOW -/

theorem full_iff (w : Window) : w.full = true ↔ w.first = 0 ∧ w.last = finalIndex w.table := by simp [Window.full]

/-- A PUT window is not to be had in WIND-DOWN, and over WORKING in STANDBY alone (R27). -/
theorem putRefused_iff (op : OpState) (put staging : Bool) : (put && !putAvailable op staging) = true ↔
    put = true ∧ (op = .windDown ∨ (staging = false ∧ op ≠ .standby)) := by
  cases op <;> simp [putAvailable]

/-- A PUT window over STAGING waits for a swap and a settle to be over (R27). -/
theorem bankBusy_iff (b : TableBanks) (put staging : Bool) : (put && staging && bankBusy b) = true ↔
    put = true ∧ staging = true ∧ (b.pendingSwap.isSome = true ∨ b.lastSwap.isSome = true) := by
  simp [bankBusy, and_assoc]

/-- A window opened: one for a full PUT clears the loaded flag of its table (R26, R27). -/
theorem openWindow_eq (w : Window) (s : State) : openWindow w s = { s with
    link := { s.link with window := some w }
    banks :=
      if w.dir = .put ∧ w.first = 0 ∧ w.last = finalIndex w.table then
        s.banks.setData w.bank { s.banks.data w.bank with loaded := (s.banks.data w.bank).loaded.put w.table false }
      else s.banks } := by
  unfold openWindow
  simp only [full_iff]
  split <;> rfl

/-- WINDOW with its checks in their order (R27). -/
theorem exec_window {s : State} {addr code flags f1 f0 l1 l0 : Byte} {table : TableId} (h : Heard s addr)
    (ht : tableOf code = some table) :
    exec (.window addr [code, flags, f1, f0, l1, l0]) s = .next
      (if num16 l1 l0 < num16 f1 f0 ∨ finalIndex table < num16 l1 l0 then replied 0x0A .outOfRange [] s
      else if flags.getLsbD 1 = true ∧ (s.ctl.op = .windDown ∨ (flags.getLsbD 0 = false ∧ s.ctl.op ≠ .standby)) then
        replied 0x0A .notNow [] s
      else if flags.getLsbD 1 = true ∧ flags.getLsbD 0 = true ∧
          (s.banks.pendingSwap.isSome = true ∨ s.banks.lastSwap.isSome = true) then
        replied 0x0A .settling [] s
      else replied 0x0A .done [] (openWindow ⟨table,
        if flags.getLsbD 0 then otherBank s.banks.working else s.banks.working, num16 f1 f0, num16 l1 l0,
        if flags.getLsbD 1 then .put else .get, num16 f1 f0⟩ s)) := by
  refine (hostCommand_heard s 0x0A false _ h (by simp)).trans (congrArg _ ?_)
  unfold cmdWindow
  simp only [ht, putRefused_iff, bankBusy_iff]
  split
  · rfl
  · split
    · rfl
    · split <;> rfl

/-! ### PUT and GET -/

/-- A bank after a PUT at the window's position: the final index of a full window sets the loaded flag (R26, R28). -/
def afterPut (w : Window) (e : TableEntry) (d : BankData) : BankData :=
  { d.write w.pos e with
    loaded := if w.first = 0 ∧ w.last = finalIndex w.table ∧ w.pos = finalIndex w.table then d.loaded.put w.table true
      else d.loaded }

theorem putEntry_eq (w : Window) (e : TableEntry) (s : State) : putEntry w e s = { s with
    banks := s.banks.setData w.bank (afterPut w e (s.banks.data w.bank))
    link := { s.link with window := some w.advance } } := by
  have hfinal : (w.full && w.pos == finalIndex w.table) = true ↔
      w.first = 0 ∧ w.last = finalIndex w.table ∧ w.pos = finalIndex w.table := by
    rw [Bool.and_eq_true, full_iff, beq_iff_eq, and_assoc]
  have hloaded := write_loaded (s.banks.data w.bank) w.pos e
  unfold putEntry afterPut
  simp only [hfinal]
  split
  · simp only [setLoaded, data_setData_same, setData_setData, hloaded]
  · simp only [← hloaded]

theorem read_afterPut_same (w : Window) (d : BankData) {e : TableEntry} (h : e.table = w.table) :
    (afterPut w e d).read w.table w.pos = e := by
  rw [afterPut, read_withLoaded, ← h, read_write_same]

theorem read_afterPut_other {w : Window} {e : TableEntry} (d : BankData) {t : TableId} {i : Nat}
    (h : t ≠ e.table ∨ i ≠ w.pos) : (afterPut w e d).read t i = d.read t i := by
  rw [afterPut, read_withLoaded, read_write_other d h]

theorem entryLength_allowed (t : TableId) : entryLengthAllowed (entryLength t) = true := by cases t <;> rfl

theorem entryLength_le (t : TableId) : entryLength t ≤ 200 := by cases t <;> decide

/-- A PUT of the window's entry is taken (R28). -/
theorem exec_put {s : State} {addr : Byte} {w : Window} {payload : List Byte} {e : TableEntry} {replaced : Bool}
    (h : Heard s addr) (hw : s.link.window = some w) (hdir : w.dir = .put)
    (he : readEntry w.table payload = some (e, replaced)) :
    exec (.put addr payload) s = .next (replied 0x0B (if replaced then .clamped else .done)
      (bytes16 w.pos ++ entryBytes e) (putEntry w e s)) := by
  obtain ⟨-, hl, -⟩ := readEntry_inRange he
  have hcmd : cmdPut payload s = (putEntry w e s, ⟨clampedIf replaced, bytes16 w.pos ++ entryBytes e⟩) := by
    simp [cmdPut, hl, entryLength_allowed, hw, hdir, he]
  refine (hostCommand_heard s 0x0B false _ h (hl ▸ entryLength_le w.table)).trans ?_
  rw [hcmd]
  rfl

/-- Without a PUT window a PUT of an entry's length is refused with NO WINDOW (R28, R186). -/
theorem exec_put_of_no_window {s : State} {addr : Byte} {payload : List Byte} (h : Heard s addr)
    (hw : ∀ w, s.link.window = some w → w.dir = .get)
    (hl : payload.length = 2 ∨ payload.length = 5 ∨ payload.length = 11) :
    exec (.put addr payload) s = .next (replied 0x0B .noWindow [] s) := by
  have hcmd : cmdPut payload s = refuse .noWindow s := by
    have hallowed : entryLengthAllowed payload.length = true := by simpa [entryLengthAllowed, or_assoc] using hl
    unfold cmdPut
    rw [if_neg (by simp [hallowed])]
    split
    · rfl
    · exact if_pos (hw _ ‹_›)
  refine (hostCommand_heard s 0x0B false _ h (by omega)).trans ?_
  rw [hcmd]
  rfl

/-- A GET in a GET window is taken (R29). -/
theorem exec_get {s : State} {addr : Byte} {w : Window} (h : Heard s addr) (hw : s.link.window = some w)
    (hdir : w.dir = .get) :
    exec (.get addr []) s = .next (replied 0x0C .done
      (bytes16 w.pos ++ entryBytes ((s.banks.data w.bank).read w.table w.pos))
      { s with link := { s.link with window := some w.advance } }) := by
  refine (hostCommand_heard s 0x0C true _ h (by simp)).trans (congrArg _ ?_)
  simp [cmdGet, hw, hdir, giveReply, replied]

/-- Without a GET window a GET is refused with NO WINDOW (R29). -/
theorem exec_get_of_no_window {s : State} {addr : Byte} (h : Heard s addr)
    (hw : ∀ w, s.link.window = some w → w.dir = .put) :
    exec (.get addr []) s = .next (replied 0x0C .noWindow [] s) := by
  have hcmd : cmdGet [] s = refuse .noWindow s := by
    unfold cmdGet
    simp only
    split
    · rfl
    · exact if_pos (hw _ ‹_›)
  refine (hostCommand_heard s 0x0C true _ h (by simp)).trans ?_
  rw [hcmd]
  rfl

/-- Settles O45: each command by its own equation, the layouts by theirs, and an entry that was read is in range, so
that its bytes are read as it is. -/
theorem windowPutAndGet : Obligations.WindowPutAndGet := by
  refine ⟨fun s addr h => ⟨fun code flags f1 f0 l1 l0 table ht => ?_, fun w payload e replaced hw hdir he => ?_,
      fun w hw hdir => exec_get h hw hdir, fun hw payload hl => exec_put_of_no_window h hw hl,
      exec_get_of_no_window h⟩, ⟨rfl, rfl, rfl, rfl, rfl, rfl, rfl, rfl⟩, fun p a => rfl, readEntry_chute, readEntry_cls,
    readEntry_pulse, fun table payload e replaced he => ?_⟩
  · rw [exec_window h ht, openWindow_eq]
    cases flags.getLsbD 1 <;> simp
  · obtain ⟨htable, -, -⟩ := readEntry_inRange he
    refine ⟨_, exec_put h hw hdir he, ?_⟩
    rw [putEntry_eq]
    simp only [data_setData_same]
    refine ⟨read_afterPut_same w _ htable, fun i hi => read_afterPut_other _ (.inr hi),
      fun t i ht => read_afterPut_other _ (.inl (htable ▸ ht)), fun b hb => data_setData_other _ hb _, rfl, ?_⟩
    rw [← setData_eq]
    rfl
  · obtain ⟨rfl, -, hrange⟩ := readEntry_inRange he
    exact readEntry_entryBytes hrange

end Sys2Proof.Machine
end

section
/-! The planner's steps that fill in the planning record: the size band and the width (O12), the flight, the seen time and
the times of each nozzle (O13), the lead (O14): R9, R47 to R53. -/

namespace Sys2Proof.Machine

/-! ### A step that is to be taken -/

/-- The command of the step to come takes it, and a wind-down is judged (R38, R159). -/
theorem live_planStep_of_next {step : PlanStep} {f : PlanRecord → State → State} {s : State} {r : PlanRecord}
    (hs : Awake s) (hp : s.planner = some r) (hn : r.next = step) :
    live (planStep step f) s = .next (endWindDown (f r s)) := by
  rw [live_awake s hs, planStep_of_next hp hn]

/-- A step whose result is a record to be planned further ends no wind-down. -/
theorem endWindDown_setPlan (r : PlanRecord) (s : State) : endWindDown (setPlan r s) = setPlan r s :=
  endWindDown_of_planning _ rfl

/-- Once a bank is fixed the tables are read from it (R42). -/
theorem planData_of_bank {r : PlanRecord} {b : Bank} (h : r.bank = some b) (s : State) :
    planData r s = s.banks.data b := by
  rw [planData, h, Option.getD_some]

/-! ### The size band and the width -/

/-- The formula of the size band gives the bands of R47's table. -/
theorem sizeBand_eq_table {size : Nat} (h : 1 ≤ size) : sizeBand size =
    if size ≤ 3 then 0 else if size ≤ 7 then 1 else if size ≤ 15 then 2 else if size ≤ 31 then 3
    else if size ≤ 63 then 4 else if size ≤ 127 then 5 else if size ≤ 255 then 6 else 7 := by
  have hlt (k : Nat) : size.log2 < k ↔ size < 2 ^ k := Nat.log2_lt (by omega)
  have h2 : size.log2 < 2 ↔ size < 4 := hlt 2
  have h3 : size.log2 < 3 ↔ size < 8 := hlt 3
  have h4 : size.log2 < 4 ↔ size < 16 := hlt 4
  have h5 : size.log2 < 5 ↔ size < 32 := hlt 5
  have h6 : size.log2 < 6 ↔ size < 64 := hlt 6
  have h7 : size.log2 < 7 ↔ size < 128 := hlt 7
  have h8 : size.log2 < 8 ↔ size < 256 := hlt 8
  unfold sizeBand
  split_ifs <;> omega

/-- A width of 0 ends the sighting PASSED, any other is trimmed and clamped (R48, R49). -/
theorem endWindDown_widthStep {r : PlanRecord} {b : Bank} (hb : r.bank = some b) {s : State}
    (hrange : s.settings.widthMin ≤ s.settings.widthMax) : endWindDown (widthStep r s) =
      let w := (s.banks.data b).pulseWidth r.sighting.cls r.band
      if w = 0 then endWindDown (endWith r.sighting .passed s)
      else setPlan { r with
        width := max s.settings.widthMin (min s.settings.widthMax ((w * (64 + s.settings.airTrim) + 64) / 128))
        next := .flight } s := by
  unfold widthStep trimWidth
  simp only [planData_of_bank hb, clampNat_eq hrange]
  split
  · rfl
  · exact endWindDown_setPlan _ s

/-- Settles O12: the formula gives the table's bands, and the width step is trimmed by its own equation. -/
theorem sizeBandAndTrimmedWidth : Obligations.SizeBandAndTrimmedWidth := by
  intro s r hs hp
  refine ⟨fun hn hlo _ => (live_planStep_of_next hs hp hn).trans (congrArg _ ?_),
    fun b hn hb hrange => (live_planStep_of_next hs hp hn).trans (congrArg _ ?_)⟩
  · rw [sizeBandStep, endWindDown_setPlan, sizeBand_eq_table hlo]
    rfl
  · rw [endWindDown_widthStep hb hrange]
    rfl

/-! ### Flight, seen time and the times of a nozzle -/

/-- The base flight trimmed, rounded by the floor of a division, and clamped at 0 (R50). -/
theorem flightTime_eq (f : Nat) (t offset : Int) :
    flightTime f t offset = (max 0 (((f : Int) * (4096 + t) + 2048) / 4096 + offset)).toNat := by
  rw [flightTime, Int.fdiv_eq_ediv_of_nonneg _ (by decide)]
  omega

/-- The rear face sees a kernel the lag later, so that its lines back are the more (R9). -/
theorem seenTime_eq (lineStart : Time) (age period : Nat) (side : Side) (lag : Int) :
    seenTime lineStart age period side lag =
      lineStart - BitVec.ofInt 32 (((age : Int) + if side = .rear then lag else 0) * period)
        + BitVec.ofNat 32 (period / 2) := by
  cases side with
  | front => simp [seenTime]
  | rear => simp [seenTime]

/-- The command goes out the latency and half the width before the arrival, the end is the width after it (R52). -/
theorem nozzleTimes_eq (seen : Time) (flight width : Nat) (n : NozzleRecord) (p : PlanNozzle) :
    nozzleTimes seen flight width n p =
      let arrival := seen + BitVec.ofNat 32 flight + BitVec.ofInt 32 n.offset
      let command := arrival - BitVec.ofNat 32 n.latency - BitVec.ofNat 32 (width / 2)
      { p with arrival := arrival, command := command, stop := command + BitVec.ofNat 32 width } := by
  simp only [nozzleTimes, plus, minus, BitVec.ofNat_add, sub_add_eq_sub_sub]

/-- Settles O13: each step enters what its own equation gives, and ends no wind-down. -/
theorem flightSeenAndNozzleTimes : Obligations.FlightSeenAndNozzleTimes := by
  intro s r b hs hp hb e
  refine ⟨fun hn => ?_, fun hn => ?_, fun hn => ?_⟩
  all_goals refine (live_planStep_of_next hs hp hn).trans (congrArg _ ?_)
  · simp only [flightStep, endWindDown_setPlan, flightTime_eq, planData_of_bank hb]
    rfl
  · simp only [seenTimeStep, endWindDown_setPlan, seenTime_eq, planData_of_bank hb]
    rfl
  · simp only [perNozzleTimesStep, endWindDown_setPlan, nozzleTimes_eq]
    rfl

/-! ### The lead -/

/-- A nozzle is late exactly when its signed lead is below LEAD MIN (R53). -/
theorem not_leadAtLeast (lead : Nat) (c now : Time) :
    (!leadAtLeast lead c now) = decide ((c - now).toInt < lead) := by
  rw [leadAtLeast, ← decide_not]
  simp only [Int.not_le]

/-- A sighting whose every nozzle is late ends UNTIMELY, any other goes on with its late nozzles marked (R53). -/
theorem endWindDown_leadStep (r : PlanRecord) (s : State) : endWindDown (leadStep r s) =
    if ∀ p ∈ r.nozzles, (p.command - s.clk.now).toInt < s.settings.leadMin then
      endWindDown (endWith r.sighting .untimely s)
    else setPlan { r with
      nozzles := r.nozzles.map fun p =>
        { p with late := decide ((p.command - s.clk.now).toInt < s.settings.leadMin) }
      next := .confidence } s := by
  unfold leadStep
  simp only [not_leadAtLeast, List.all_map, List.all_eq_true, Function.comp_apply, decide_eq_true_eq]
  split
  · rfl
  · exact endWindDown_setPlan _ s

/-- Settles O14: by the lead step's own equation. -/
theorem leadStepDropsLateNozzles : Obligations.LeadStepDropsLateNozzles := by
  intro s r hs hp hn
  refine (live_planStep_of_next hs hp hn).trans (congrArg _ ?_)
  rw [endWindDown_leadStep]
  rfl

end Sys2Proof.Machine
end

section
/-! The nozzle-set step of the planner (O11): the effective nozzle of a column, the columns looked up one by one, and the
four members kept of the set they form: R44 to R46. -/

namespace Sys2Proof.Machine

/-! ### The effective nozzle of a column -/

theorem serving_eq_some {s : State} {h : Chute} {o : Option Nat} {n : Nat} :
    serving s h o = some n ↔ o = some n ∧ (s.nozzle (globalId h n)).state = .inService := by
  cases o with
  | none => simp [serving]
  | some m =>
    simp only [serving, State.inService, beq_iff_eq, Option.ite_none_right_eq_some, Option.some.injEq]
    constructor
    · rintro ⟨hin, rfl⟩
      exact ⟨rfl, hin⟩
    · rintro ⟨rfl, hin⟩
      exact ⟨hin, rfl⟩

theorem serving_eq_none {s : State} {h : Chute} {o : Option Nat} :
    serving s h o = none ↔ ∀ p, o = some p → (s.nozzle (globalId h p)).state ≠ .inService := by
  simp only [Option.eq_none_iff_forall_ne_some, ne_eq, serving_eq_some, not_and]

/-- The primary serves its column while it is in service, the alternate where the primary does not (R44). -/
theorem effectiveNozzle_eq_some {s : State} {b : Bank} {h : Chute} {c n : Nat} :
    effectiveNozzle s (s.banks.data b) h c = some n ↔ Serves s b h c n := by
  unfold effectiveNozzle Serves
  simp only
  rw [← serving_eq_none, ← serving_eq_some, ← serving_eq_some]
  cases serving s h ((s.banks.data b).columnEntry h c).primary with
  | none => simp
  | some m => simp

/-! ### The columns looked up -/

/-- The planning record when its next `n` columns have been looked up as the nozzle states of `s` stand (R44). -/
def PlanRecord.lookedUp (r : PlanRecord) (s : State) (d : BankData) (n : Nat) : PlanRecord :=
  { r with
    column := r.column + n
    served := r.served ++ (List.range' r.column n).filterMap (effectiveNozzle s d r.sighting.chute) }

theorem lookUp_eq_lookedUp {r : PlanRecord} {b : Bank} {s : State} (hb : r.bank = some b) (hc : r.column ≤ r.c1) :
    r.lookUp s = r.lookedUp s (s.banks.data b) 1 := by
  unfold PlanRecord.lookUp PlanRecord.lookedUp
  rw [if_pos hc, planData_of_bank hb]
  cases h : effectiveNozzle s (s.banks.data b) r.sighting.chute r.column with
  | none => simp [h]
  | some n => simp [h]

theorem lookedUp_zero (r : PlanRecord) (s : State) (d : BankData) : r.lookedUp s d 0 = r := by
  simp [PlanRecord.lookedUp]

theorem setPlan_self {r : PlanRecord} {s : State} (h : s.planner = some r) : setPlan r s = s := by
  unfold setPlan
  rw [← h]

/-- Looking up one column and then `n` more is looking up `n + 1`. -/
theorem lookedUp_lookedUp (r : PlanRecord) (s : State) (d : BankData) (n : Nat) :
    (r.lookedUp s d 1).lookedUp s d n = r.lookedUp s d (n + 1) := by
  simp only [PlanRecord.lookedUp, List.range'_succ, List.range'_zero, List.append_assoc, ← List.filterMap_append,
    List.cons_append, List.nil_append, Nat.add_assoc, Nat.add_comm 1 n]

/-- With columns left the step looks up the next one (R44). -/
theorem endWindDown_nozzleSetStep_of_left {r : PlanRecord} {b : Bank} {s : State} (hb : r.bank = some b)
    (hc : r.column < r.c1) :
    endWindDown (nozzleSetStep r s) = setPlan (r.lookedUp s (s.banks.data b) 1) s := by
  have hleft : (r.lookedUp s (s.banks.data b) 1).column ≤ (r.lookedUp s (s.banks.data b) 1).c1 := hc
  unfold nozzleSetStep
  rw [lookUp_eq_lookedUp hb (Nat.le_of_lt hc)]
  simp only [if_pos hleft, endWindDown_setPlan]

/-- So many commands in a row look up so many columns (R44). -/
theorem execAll_nozzleSetStep {b : Bank} (n : Nat) {r : PlanRecord} {s : State} (hs : Awake s)
    (hp : s.planner = some r) (hn : r.next = .nozzleSet) (hb : r.bank = some b) (hc : r.column + n ≤ r.c1) :
    execAll (List.replicate n .nozzleSetStep) s = .next (setPlan (r.lookedUp s (s.banks.data b) n) s) := by
  induction n generalizing r s with
  | zero =>
    rw [lookedUp_zero, setPlan_self hp]
    rfl
  | succ n ih =>
    have hfirst : exec .nozzleSetStep s = .next (setPlan (r.lookedUp s (s.banks.data b) 1) s) := by
      rw [← endWindDown_nozzleSetStep_of_left hb (by omega)]
      exact live_planStep_of_next hs hp hn
    have hrest := ih (r := r.lookedUp s (s.banks.data b) 1) (s := setPlan (r.lookedUp s (s.banks.data b) 1) s) hs rfl hn
      hb (by simp only [PlanRecord.lookedUp]; omega)
    rw [List.replicate_succ, execAll, hfirst]
    refine hrest.trans (congrArg (fun r' => Host.Outcome.next (setPlan r' s)) ?_)
    exact lookedUp_lookedUp r s (s.banks.data b) n

/-! ### The members kept -/

/-- The numbers of the nozzles that serve some column, in their order (R45). -/
def membersOf (served : List Nat) : List Nat := (List.range 40).filter fun n => served.contains n

/-- The nozzle set lists its members with their column counts (R45). -/
theorem nozzleSet_eq (served : List Nat) : nozzleSet served = (membersOf served).map fun n => (n, served.count n) := by
  unfold nozzleSet membersOf
  rw [List.filter_map]
  refine congrArg _ (List.filter_congr fun n _ => ?_)
  rw [Bool.eq_iff_iff, List.contains_iff_mem, ← List.count_pos_iff]
  simp

theorem membersOf_sorted (served : List Nat) : (membersOf served).Pairwise (· < ·) :=
  (List.pairwise_lt_range).sublist List.filter_sublist

theorem nozzleSet_sorted (served : List Nat) : (nozzleSet served).Pairwise fun p q => p.1 < q.1 := by
  rw [nozzleSet_eq]
  exact List.pairwise_map.2 (membersOf_sorted served)

theorem keptBefore_iff (a b : Nat × Nat) : keptBefore a b = true ↔ b.2 < a.2 ∨ (a.2 = b.2 ∧ a.1 < b.1) := by
  simp [keptBefore]

theorem keptBefore_irrefl (a : Nat × Nat) : keptBefore a a = false := by
  simp [keptBefore]

theorem keptBefore_trans {a b c : Nat × Nat} (h : keptBefore a b = true) (h' : keptBefore b c = true) :
    keptBefore a c = true := by
  rw [keptBefore_iff] at *
  omega

/-- Of two members with numbers of their own one is kept before the other (R46). -/
theorem keptBefore_of_not {a b : Nat × Nat} (hne : a.1 ≠ b.1) (h : keptBefore a b = false) : keptBefore b a = true := by
  rw [← Bool.not_eq_true, keptBefore_iff] at h
  rw [keptBefore_iff]
  omega

/-- In a list in the order of keeping, those that fewer than `k` are kept before are its first `k`. -/
theorem length_filter_rank_of_sorted {l : List (Nat × Nat)} (h : l.Pairwise fun a b => keptBefore a b = true) (k : Nat) :
    (l.filter fun p => l.countP (fun q => keptBefore q p) < k).length = min k l.length := by
  induction l generalizing k with
  | nil => simp
  | cons x t ih =>
    obtain ⟨hx, ht⟩ := List.pairwise_cons.1 h
    have hfirst : (x :: t).countP (fun q => keptBefore q x) = 0 := by
      refine List.countP_eq_zero.2 fun q hq hqx => ?_
      have hxx : keptBefore x x = true := by
        rcases List.mem_cons.1 hq with rfl | hq
        · exact hqx
        · exact keptBefore_trans (hx q hq) hqx
      simp [keptBefore_irrefl] at hxx
    have hothers : ∀ p ∈ t, (x :: t).countP (fun q => keptBefore q p) = t.countP (fun q => keptBefore q p) + 1 :=
      fun p hp => List.countP_cons_of_pos (hx p hp)
    cases k with
    | zero => simp
    | succ k =>
      have htail : (t.filter fun p => (x :: t).countP (fun q => keptBefore q p) < k + 1)
          = t.filter fun p => t.countP (fun q => keptBefore q p) < k :=
        List.filter_congr fun p hp => by simp only [hothers p hp, Nat.add_lt_add_iff_right]
      rw [List.filter_cons_of_pos (by simp [hfirst]), htail, List.length_cons, ih ht k, List.length_cons]
      omega

/-- Every list of members with numbers of their own can be put in the order of keeping. -/
theorem exists_perm_keptBefore {l : List (Nat × Nat)} (h : l.Pairwise fun p q => p.1 ≠ q.1) :
    ∃ l' : List (Nat × Nat), l'.Perm l ∧ l'.Pairwise fun a b => keptBefore a b = true := by
  have hsorted := List.pairwise_mergeSort (le := fun a b => !keptBefore b a) (fun a b c hab hbc => ?_) (fun a b => ?_) l
  · have hperm := List.mergeSort_perm l fun a b => !keptBefore b a
    have hne := (hperm.pairwise_iff Ne.symm).2 h
    refine ⟨_, hperm, (hne.and hsorted).imp fun ⟨hne, hab⟩ => ?_⟩
    exact keptBefore_of_not (Ne.symm hne) (by simpa using hab)
  · simp only [Bool.not_eq_true', ← Bool.not_eq_true, keptBefore_iff] at *
    omega
  · simp only [Bool.or_eq_true, Bool.not_eq_true', ← Bool.not_eq_true, keptBefore_iff]
    omega

/-- Four members are kept, or all of fewer (R46). -/
theorem length_clipSet {l : List (Nat × Nat)} (h : l.Pairwise fun p q => p.1 ≠ q.1) :
    (clipSet l).length = min 4 l.length := by
  obtain ⟨l', hperm, hsorted⟩ := exists_perm_keptBefore h
  rw [← hperm.length_eq, ← length_filter_rank_of_sorted hsorted 4, clipSet]
  simp only [hperm.countP_eq]
  exact (hperm.symm.filter _).length_eq

/-- A member that is not kept comes after every one that is (R46). -/
theorem keptBefore_of_not_mem_clipSet {l : List (Nat × Nat)} {p q : Nat × Nat} (hp : p ∈ clipSet l) (hq : q ∈ l)
    (hout : q ∉ clipSet l) (hne : q.1 ≠ p.1) : keptBefore p q = true := by
  obtain ⟨-, hrank⟩ := List.mem_filter.1 hp
  have hrank' : Config.planSize ≤ l.countP fun x => keptBefore x q := by
    simpa only [clipSet, List.mem_filter, hq, true_and, decide_eq_true_eq, Nat.not_lt] using hout
  have hless : l.countP (fun x => keptBefore x p) < l.countP fun x => keptBefore x q :=
    Nat.lt_of_lt_of_le (of_decide_eq_true hrank) hrank'
  refine keptBefore_of_not hne (Bool.eq_false_iff.2 fun hqp => Nat.not_le.2 hless ?_)
  exact List.countP_mono_left fun x _ hx => keptBefore_trans hx hqp

/-! ### The nozzle set formed -/

/-- The nozzles kept of those that serve, their times not yet computed (R45, R46). -/
def keptNozzles (served : List Nat) : List PlanNozzle :=
  (clipSet (nozzleSet served)).map fun p => ⟨p.1, p.2, 0, 0, 0, false⟩

theorem formNozzleSet_of_none {r : PlanRecord} (h : membersOf r.served = []) (s : State) :
    formNozzleSet r s = endWith r.sighting .blind s := by
  simp [formNozzleSet, nozzleSet_eq, h]

/-- A nozzle set that is not empty goes on to the size band, CLIPPED counted where some are not kept (R46). -/
theorem formNozzleSet_of_some {r : PlanRecord} (h : membersOf r.served ≠ []) (s : State) :
    formNozzleSet r s = setPlan { r with nozzles := keptNozzles r.served, next := .sizeBand }
      (if 4 < (membersOf r.served).length then countSighting r.sighting.chute r.sighting.cls .clipped s else s) := by
  simp [formNozzleSet, nozzleSet_eq, h, keptNozzles, Config.planSize]

theorem keptNozzles_sorted (served : List Nat) : (keptNozzles served).Pairwise fun p q => p.num < q.num :=
  List.pairwise_map.2 ((nozzleSet_sorted served).sublist List.filter_sublist)

theorem length_keptNozzles (served : List Nat) : (keptNozzles served).length = min 4 (membersOf served).length := by
  rw [keptNozzles, List.length_map, length_clipSet ((nozzleSet_sorted served).imp Nat.ne_of_lt), nozzleSet_eq,
    List.length_map]

theorem mem_nozzleSet {served : List Nat} {p : Nat × Nat} :
    p ∈ nozzleSet served ↔ p.1 ∈ membersOf served ∧ p.2 = served.count p.1 := by
  obtain ⟨n, k⟩ := p
  rw [nozzleSet_eq, List.mem_map]
  constructor
  · rintro ⟨m, hm, heq⟩
    obtain ⟨rfl, rfl⟩ := Prod.mk.inj heq
    exact ⟨hm, rfl⟩
  · rintro ⟨hn, hk⟩
    exact ⟨n, hn, Prod.ext rfl hk.symm⟩

/-- A nozzle kept is a member with its column count (R45). -/
theorem mem_keptNozzles {served : List Nat} {p : PlanNozzle} (h : p ∈ keptNozzles served) :
    p.num ∈ membersOf served ∧ p.columns = served.count p.num := by
  obtain ⟨q, hq, rfl⟩ := List.mem_map.1 h
  exact mem_nozzleSet.1 (List.mem_of_mem_filter hq)

/-- A member not kept serves fewer columns than one kept, or as many with a higher number (R46). -/
theorem not_kept_serves_less {served : List Nat} {n : Nat} (hn : n ∈ membersOf served)
    (hout : ∀ p ∈ keptNozzles served, p.num ≠ n) {p : PlanNozzle} (hp : p ∈ keptNozzles served) :
    served.count n < p.columns ∨ (served.count n = p.columns ∧ p.num < n) := by
  have hnot : (n, served.count n) ∉ clipSet (nozzleSet served) := fun hc => hout _ (List.mem_map_of_mem hc) rfl
  obtain ⟨q, hq, rfl⟩ := List.mem_map.1 hp
  have hne : n ≠ q.1 := (hout _ hp).symm
  have hbefore := keptBefore_of_not_mem_clipSet hq (mem_nozzleSet.2 ⟨hn, rfl⟩) hnot hne
  rw [keptBefore_iff] at hbefore
  exact hbefore.imp id fun ⟨heq, hlt⟩ => ⟨heq.symm, hlt⟩

/-- With the last column the step forms the nozzle set (R44, R45). -/
theorem nozzleSetStep_of_last {r : PlanRecord} {b : Bank} {s : State} (hb : r.bank = some b) (hc : r.column = r.c1) :
    nozzleSetStep r s = formNozzleSet (r.lookedUp s (s.banks.data b) 1) s := by
  unfold nozzleSetStep
  rw [lookUp_eq_lookedUp hb (Nat.le_of_eq hc)]
  exact if_neg (by simp only [PlanRecord.lookedUp]; omega)

/-- Settles O11: a column at a time, and with the last one the set by its equation and the four kept by the order of
R46. -/
theorem nozzleSetKeepsTheFourGreatest : Obligations.NozzleSetKeepsTheFourGreatest := by
  intro s r b hs hp hn hb h found served members
  have hexec : exec .nozzleSetStep s = .next (endWindDown (nozzleSetStep r s)) := live_planStep_of_next hs hp hn
  refine ⟨fun c n => effectiveNozzle_eq_some, fun hc => ?_, fun n hc => execAll_nozzleSetStep n hs hp hn hb hc,
    fun hc => ⟨fun hnone => ?_, fun hsome => ⟨keptNozzles served, ?_, keptNozzles_sorted served,
      fun p => mem_keptNozzles, length_keptNozzles served, fun n hn hout p => not_kept_serves_less hn hout⟩⟩⟩
  · exact hexec.trans (congrArg _ (endWindDown_nozzleSetStep_of_left hb hc))
  · rw [hexec, nozzleSetStep_of_last hb hc, formNozzleSet_of_none (r := r.lookedUp s (s.banks.data b) 1) hnone]
    rfl
  · rw [hexec, nozzleSetStep_of_last hb hc, formNozzleSet_of_some (r := r.lookedUp s (s.banks.data b) 1) hsome,
      endWindDown_setPlan, show r.c1 + 1 = r.column + 1 by rw [hc]]
    rfl

end Sys2Proof.Machine
end

section
/-! The ends of planning: a placement (O16), and the confidence step with its hand-over to the held list (O15): R54 to R56,
R80 to R82, R86, R87, R159. -/

namespace Sys2Proof.Machine

/-! ### Placement -/

/-- The outcome of a placement is the first that its results give (R56). -/
theorem placementOutcome_eq (results : List PlaceResult) : placementOutcome results =
    if PlaceResult.created ∈ results then .planned
    else if PlaceResult.merged ∈ results then .merged
    else if PlaceResult.crowded ∈ results then .crowded
    else if PlaceResult.late ∈ results then .untimely
    else .blind := by
  simp only [placementOutcome, List.contains_iff_mem]

theorem length_placePlan (prio : Nat) (plan : List PlanFiring) (s : State) :
    (placePlan prio plan s).2.length = plan.length := by
  induction plan generalizing s with
  | nil => rfl
  | cons f fs ih => exact congrArg (· + 1) (ih _)

/-- A firing of a nozzle out of service is blind (R55). -/
theorem placeOne_of_out {prio : Nat} {s : State} {f : PlanFiring} (h : (s.nozzle f.nozzle).state ≠ .inService) :
    placeOne prio s f = (s, .blind) := by
  simp [placeOne, State.inService, h]

/-- A firing short of LEAD MIN is late (R55). -/
theorem placeOne_of_late {prio : Nat} {s : State} {f : PlanFiring} (h : (s.nozzle f.nozzle).state = .inService)
    (hl : (f.command - s.clk.now).toInt < s.settings.leadMin) : placeOne prio s f = (s, .late) := by
  simp only [placeOne, State.inService, h, not_leadAtLeast, hl, beq_self_eq_true, Bool.not_true, decide_true,
    Bool.false_eq_true, if_false, if_true]

/-- The result of a nozzle whose firing was offered (R55). -/
def placedAs : OfferResult → PlaceResult
  | .created _ => .created
  | .merged _ => .merged
  | .crowded => .crowded
  | .blind => .blind

/-- Any other firing is offered, and the offer's result is the nozzle's (R55). -/
theorem placeOne_of_timely {prio : Nat} {s : State} {f : PlanFiring} (h : (s.nozzle f.nozzle).state = .inService)
    (hl : (s.settings.leadMin : Int) ≤ (f.command - s.clk.now).toInt) : placeOne prio s f =
      ((offer f.nozzle f.command f.stop prio .sighting s).1,
        placedAs (offer f.nozzle f.command f.stop prio .sighting s).2) := by
  simp only [placeOne, State.inService, h, not_leadAtLeast, Int.not_lt.2 hl, beq_self_eq_true, Bool.not_true,
    decide_false, Bool.false_eq_true, if_false]
  generalize offer f.nozzle f.command f.stop prio .sighting s = offered
  obtain ⟨t, _ | _ | _ | _⟩ := offered <;> rfl

theorem placedAs_eq_created (o : OfferResult) : placedAs o = .created ↔ ∃ i, o = .created i := by
  cases o <;> simp [placedAs]

theorem placedAs_eq_merged (o : OfferResult) : placedAs o = .merged ↔ ∃ i, o = .merged i := by
  cases o <;> simp [placedAs]

theorem placedAs_eq_crowded (o : OfferResult) : placedAs o = .crowded ↔ o = .crowded := by
  cases o <;> simp [placedAs]

/-- Settles O16: the step by its own equation, the plan by its recursion, a firing by its three cases. -/
theorem placementCountsItsOutcome : Obligations.PlacementCountsItsOutcome := by
  refine ⟨fun s r hs hp hn => live_planStep_of_next hs hp hn, fun u h k prio plan => ?_, fun u prio f fs => ?_⟩
  · refine ⟨_, _, rfl, length_placePlan prio plan u, ?_⟩
    rw [← placementOutcome_eq]
    rfl
  · refine ⟨rfl, fun v t result results h1 h2 => ?_, placeOne_of_out,
      fun hin => ⟨placeOne_of_late hin, fun hl => ?_⟩⟩
    · simp only [placePlan, h1, h2]
    · rw [placeOne_of_timely hin hl]
      exact ⟨rfl, placedAs_eq_created _, placedAs_eq_merged _, placedAs_eq_crowded _⟩

/-! ### The hand-over to the held list -/

/-- A held entry goes after those of an earlier or equal deadline and before the first of a later one (R80). -/
theorem insertHeld_in_order (e : HeldEntry) (l : List HeldEntry) : ∃ earlier later : List HeldEntry,
    l = earlier ++ later ∧ (∀ y ∈ earlier, before e.deadline y.deadline = false) ∧
    (∀ y ∈ later.head?, before e.deadline y.deadline = true) ∧ insertHeld e l = earlier ++ e :: later := by
  induction l with
  | nil => exact ⟨[], [], rfl, by simp, by simp, rfl⟩
  | cons x l ih =>
    by_cases h : before e.deadline x.deadline = true
    · exact ⟨[], x :: l, rfl, by simp, by simpa using h, by simp [insertHeld, h]⟩
    · obtain ⟨earlier, later, hl, hearlier, hlater, hi⟩ := ih
      exact ⟨x :: earlier, later, by simp [hl], by simpa [h] using hearlier, hlater, by simp [insertHeld, h, hi]⟩

/-- A hand-over whose deadline has come is settled at once (R81, R86). -/
theorem handOff_of_expired {e : HeldEntry} {s : State} (h : before s.clk.now e.deadline = false) :
    handOff e s = expireSighting e s := by
  simp [handOff, h]

/-- A hand-over of a chute and tag that the list holds already is resolved at once (R81, R82). -/
theorem handOff_of_duplicate {e : HeldEntry} {s : State} (h : before s.clk.now e.deadline = true)
    (hdup : ∃ y ∈ s.verdicts.held, y.chute = e.chute ∧ y.tag = e.tag) :
    handOff e s = resolveAtOnce e (countChute e.chute .duplicateTags s) := by
  have hfound : (findHeld e.chute e.tag s).isSome = true := by
    simpa [findHeld, HeldEntry.named] using hdup
  simp [handOff, h, hfound]

/-- A hand-over of a new chute and tag to a full list is resolved at once (R81, R82). -/
theorem handOff_of_full {e : HeldEntry} {s : State} (h : before s.clk.now e.deadline = true)
    (hnew : ∀ y ∈ s.verdicts.held, ¬(y.chute = e.chute ∧ y.tag = e.tag)) (hfull : 32 ≤ s.verdicts.held.length) :
    handOff e s = resolveAtOnce e (setNotice .heldFull (some e.chute) s) := by
  simp [handOff, h, findHeld_eq_none.2 hnew, Config.heldSize, hfull]

/-- With a sighting held a wind-down goes on (R159). -/
theorem endWindDown_of_held {s : State} (h : s.verdicts.held ≠ []) : endWindDown s = s :=
  endWindDown_of_work s fun ⟨_, _, hheld, _⟩ => h hheld

/-- A hand-over of a new chute and tag is held in order where there is room, and a wind-down goes on with it (R80, R81,
R159). -/
theorem endWindDown_handOff_of_room {e : HeldEntry} {s : State} (h : before s.clk.now e.deadline = true)
    (hnew : ∀ y ∈ s.verdicts.held, ¬(y.chute = e.chute ∧ y.tag = e.tag)) (hroom : s.verdicts.held.length < 32) :
    ∃ earlier later : List HeldEntry, s.verdicts.held = earlier ++ later ∧
      (∀ y ∈ earlier, before e.deadline y.deadline = false) ∧
      (∀ y ∈ later.head?, before e.deadline y.deadline = true) ∧
      endWindDown (handOff e s) = { s with verdicts := { s.verdicts with held := earlier ++ e :: later } } := by
  obtain ⟨earlier, later, hl, hearlier, hlater, hi⟩ := insertHeld_in_order e s.verdicts.held
  have hheld : handOff e s = { s with verdicts := { s.verdicts with held := earlier ++ e :: later } } := by
    simp [handOff, h, findHeld_eq_none.2 hnew, Config.heldSize, Nat.not_le.2 hroom, hi]
  refine ⟨earlier, later, hl, hearlier, hlater, ?_⟩
  rw [hheld, endWindDown_of_held]
  simp

/-- A confident sighting goes on to placement (R54). -/
theorem confidenceStep_of_confident {r : PlanRecord} {b : Bank} (hb : r.bank = some b) {s : State}
    (h : ((s.banks.data b).classEntry r.sighting.cls).threshold ≤ r.sighting.conf) : confidenceStep r s =
      let e := (s.banks.data b).classEntry r.sighting.cls
      setPlan { r with prio := e.prio, threshold := e.threshold, policy := e.policy, next := .placement } s := by
  simp [confidenceStep, planData_of_bank hb, h]

/-- An uncertain sighting is handed over with its class's priority and policy, which ends planning (R54, R79). -/
theorem confidenceStep_of_uncertain {r : PlanRecord} {b : Bank} (hb : r.bank = some b) {s : State}
    (h : r.sighting.conf < ((s.banks.data b).classEntry r.sighting.cls).threshold) : confidenceStep r s =
      let e := (s.banks.data b).classEntry r.sighting.cls
      handOff (heldOf { r with prio := e.prio, policy := e.policy } s.settings.leadMin) (endPlanning s) := by
  simp only [confidenceStep, planData_of_bank hb, Nat.not_le.2 h, if_false]
  rfl

/-- Settles O15: the hand-over goes by its deadline, its tag and the room, in that order. -/
theorem confidenceStepPlacesOrHandsOver : Obligations.ConfidenceStepPlacesOrHandsOver := by
  intro s r b hs hp hn hb e h plan x u settled policy
  have hexec : exec .confidenceStep s = .next (endWindDown (confidenceStep r s)) := live_planStep_of_next hs hp hn
  refine ⟨fun hconf => ?_, fun hconf => ?_, fun tag ring => rfl, fun f fs => rfl⟩
  · rw [hexec, confidenceStep_of_confident hb hconf]
    exact congrArg _ (endWindDown_setPlan _ s)
  · replace hexec : exec .confidenceStep s = .next (endWindDown (handOff x u)) := by
      rw [hexec, confidenceStep_of_uncertain hb hconf]
      rfl
    refine ⟨fun hcome => ?_, fun htime => ⟨fun hdup => ?_, fun hnew => ⟨fun hfull => ?_, fun hroom => ?_⟩⟩⟩
    · rw [hexec, handOff_of_expired (s := u) hcome]
      rfl
    · rw [hexec, handOff_of_duplicate (s := u) htime hdup]
      rfl
    · rw [hexec, handOff_of_full (s := u) htime hnew hfull]
      rfl
    · rw [hexec]
      obtain ⟨earlier, later, hl, hearlier, hlater, heq⟩ := endWindDown_handOff_of_room (s := u) htime hnew hroom
      exact ⟨earlier, later, hl, hearlier, hlater, congrArg _ heq⟩

end Sys2Proof.Machine
end

section
/-! WAITING entries and the nozzles' states (O58): an offer asks for a nozzle in service (R65), an entry never goes back to
WAITING (R62), and a nozzle that leaves service loses its WAITING entries (R74, R134, R138). -/

namespace Sys2Proof.Machine

/-! ### Queues and nozzle records written -/

theorem WaitingInService.of_empty {s : State} (h : s.firing.queues = []) : WaitingInService s :=
  ⟨by rw [h]; rfl, fun g e he => by simp [State.queue, h] at he⟩

/-- A queue replaced by one whose WAITING entries are served. -/
theorem WaitingInService.setQueue {s : State} (h : WaitingInService s) {g : Nat} {l : List Entry}
    (hl : ∀ e ∈ l, e.phase = .waiting → (s.nozzle g).state = .inService) : WaitingInService (s.setQueue g l) := by
  obtain ⟨hwf, hserved⟩ := h
  refine ⟨Tab.wf_set hwf g l, fun g' e he hw => ?_⟩
  by_cases hg : g' = g
  · subst hg
    rw [queue_setQueue_same] at he
    exact hl e he hw
  · rw [queue_setQueue_other s hg] at he
    exact hserved g' e he hw

/-- Every queue mapped to one with no new WAITING entries. -/
theorem WaitingInService.mapQueues {s t : State} (h : WaitingInService s) {f : List Entry → List Entry}
    (hq : t.firing.queues = Tab.mapListed [] (fun _ => f) s.firing.queues) (hn : t.nozzles = s.nozzles) (hnil : f [] = [])
    (hf : ∀ l, ∀ e ∈ f l, e.phase = .waiting → e ∈ l) : WaitingInService t := by
  obtain ⟨hwf, hserved⟩ := h
  refine ⟨hq ▸ Tab.wf_mapListed hwf _, fun g e he hw => ?_⟩
  rw [State.queue, hq, Tab.get_mapListed hwf _ g hnil] at he
  unfold State.nozzle
  rw [hn]
  exact hserved g e (hf _ e he hw) hw

/-- A nozzle record replaced by one that is in service if the old one was. -/
theorem WaitingInService.setNozzle {s : State} (h : WaitingInService s) {g : Nat} {r : NozzleRecord}
    (hr : (s.nozzle g).state = .inService → r.state = .inService) : WaitingInService (s.setNozzle g r) := by
  obtain ⟨hwf, hserved⟩ := h
  refine ⟨hwf, fun g' e he hw => ?_⟩
  have hold := hserved g' e he hw
  by_cases hg : g' = g
  · subst hg
    rw [nozzle_setNozzle_same]
    exact hr hold
  · rwa [nozzle_setNozzle_other s hg]

/-- Whatever has become of a nozzle's record, it may lose its WAITING entries (R74). -/
theorem abandonWaiting_serves {s t : State} {g : Nat} (h : WaitingInService s) (hq : t.firing.queues = s.firing.queues)
    (hn : ∀ g', g' ≠ g → t.nozzle g' = s.nozzle g') : WaitingInService (abandonWaiting g t) := by
  obtain ⟨hwf, hserved⟩ := h
  have hqueue : ∀ g', t.queue g' = s.queue g' := fun g' => congrArg (Tab.get [] · g') hq
  refine ⟨Tab.wf_set (hq ▸ hwf) g _, fun g' e he hw => ?_⟩
  replace he : e ∈ (t.setQueue g ((t.queue g).filter fun e => e.phase != .waiting)).queue g' := he
  by_cases hg : g' = g
  · subst hg
    rw [queue_setQueue_same, List.mem_filter] at he
    simp [hw] at he
  · rw [queue_setQueue_other t hg, hqueue] at he
    exact (congrArg NozzleRecord.state (hn g' hg)).trans (hserved g' e he hw)

/-! ### Entries removed, changed and offered -/

theorem removeEntry_keeps_served (g ident : Nat) : Keeps WaitingInService (removeEntry g ident) :=
  fun _ h => h.setQueue fun e he hw => h.2 g e (List.mem_filter.1 he).1 hw

/-- No entry goes back to WAITING (R62). -/
theorem updateEntry_keeps_served (g ident : Nat) {f : Entry → Entry}
    (hf : ∀ e, (f e).phase = .waiting → e.phase = .waiting) : Keeps WaitingInService (updateEntry g ident f) := by
  refine fun s h => h.setQueue fun e he hw => ?_
  obtain ⟨x, hx, rfl⟩ := List.mem_map.1 he
  refine h.2 g x hx ?_
  split at hw
  · exact hf x hw
  · exact hw

theorem abandonOrigin_keeps_served (o : Origin) : Keeps WaitingInService (abandonOrigin o) :=
  fun _ h => h.mapQueues rfl rfl rfl fun _ _ he _ => (List.mem_filter.1 he).1

/-- What the expiry of the wind-down limit leaves of an entry is CLOSING (R77). -/
theorem reduceEntry_phase {e x : Entry} (h : reduceEntry e = some x) : x.phase = .closing := by
  unfold reduceEntry at h
  split at h
  · cases h
  · cases h
    assumption
  all_goals
    split at h
    · cases h
    · cases h
      rfl

theorem reduceQueues_keeps_served : Keeps WaitingInService reduceQueues := by
  refine fun s h => h.mapQueues rfl rfl rfl fun l e he hw => ?_
  obtain ⟨x, -, hx⟩ := List.mem_filterMap.1 he
  rw [reduceEntry_phase hx] at hw
  cases hw

theorem closeEarly_keeps_served (g : Nat) (e : Entry) : Keeps WaitingInService (closeEarly g e) := by
  intro s h
  unfold closeEarly
  simp only
  split
  · exact removeEntry_keeps_served g e.ident (s.setOpenCount _ _) h
  · refine updateEntry_keeps_served g e.ident ?_ _ ?_
    · exact nofun
    · split <;> exact h

/-- An offer that is not blind is made to a nozzle in service (R65). -/
theorem offer_keeps_served (g : Nat) (c e : Time) (prio : Nat) (o : Origin) :
    Keeps WaitingInService fun s => (offer g c e prio o s).1 := by
  intro s h
  simp only [offer]
  split
  · exact h
  · rename_i hin
    have hserved : (s.nozzle g).state = .inService := by simpa [State.inService] using hin
    have hset : ∀ l, WaitingInService (s.setQueue g l) := fun l => h.setQueue fun _ _ _ => hserved
    split
    · split
      · exact hset _
      · exact h
    · split
      · exact h
      · exact hset _

theorem placeOne_keeps_served (prio : Nat) (f : PlanFiring) :
    Keeps WaitingInService fun s => (placeOne prio s f).1 := by
  intro s h
  have ho := offer_keeps_served f.nozzle f.command f.stop prio .sighting s h
  simp only [placeOne]
  split
  · exact h
  · split
    · exact h
    · revert ho
      simp only
      generalize offer f.nozzle f.command f.stop prio .sighting s = r
      rcases r with ⟨t, _ | _ | _ | _⟩ <;> exact id

theorem placeAndCount_keeps_served (h : Chute) (k prio : Nat) (plan : List PlanFiring) :
    Keeps WaitingInService (placeAndCount h k prio plan) := by
  intro s hs
  suffices hplan : ∀ u, WaitingInService u → WaitingInService (placePlan prio plan u).1 from hplan s hs
  induction plan with
  | nil => exact fun _ hu => hu
  | cons f fs ih => exact fun u hu => ih _ (placeOne_keeps_served prio f u hu)

theorem purgeOffer_keeps_served (width n : Nat) (c : Chute) : Keeps WaitingInService (purgeOffer width n c) := by
  intro s h
  unfold purgeOffer
  simp only
  split
  · have ho := offer_keeps_served (globalId c n) (plus s.clk.now s.settings.leadMin)
      (plus (plus s.clk.now s.settings.leadMin) width) 0 .purge s h
    revert ho
    simp only
    generalize offer (globalId c n) (plus s.clk.now s.settings.leadMin)
      (plus (plus s.clk.now s.settings.leadMin) width) 0 .purge s = r
    rcases r with ⟨t, _ | _ | _ | _⟩ <;> exact id
  · exact h

/-! ### Ends and resets -/

theorem grantLoop_keeps_served (h : Chute) (fuel : Nat) : Keeps WaitingInService (grantLoop h fuel) := by
  induction fuel with
  | zero => exact fun _ hs => hs
  | succ fuel ih =>
    intro s hs
    unfold grantLoop
    split
    · exact hs
    · rename_i r _
      have ht : WaitingInService (takeRequest h r s) := hs
      simp only
      split
      · split
        · exact ih _ ht
        · split
          · exact ih _ ht
          · split
            · exact ih _ (removeEntry_keeps_served _ _ ((takeRequest h r s).setOpenCount _ _) ht)
            · refine updateEntry_keeps_served r.nozzle r.ident ?_ (takeRequest h r s) ht
              exact fun _ => id
      · refine updateEntry_keeps_served r.nozzle r.ident ?_ (takeRequest h r s) ht
        exact fun _ => id

theorem grantNext_keeps_served (h : Chute) : Keeps WaitingInService (grantNext h) := by
  intro s hs
  unfold grantNext
  simp only
  split
  · exact hs
  · split
    · exact hs
    · exact grantLoop_keeps_served h _ s hs

theorem grantAll_keeps_served : Keeps WaitingInService grantAll := fun s h =>
  grantNext_keeps_served 3 _ (grantNext_keeps_served 2 _ (grantNext_keeps_served 1 _ (grantNext_keeps_served 0 s h)))

theorem freeBus_keeps_served (h : Chute) : Keeps WaitingInService (freeBus h) :=
  fun s hs => grantNext_keeps_served h (s.setBus h _) hs

theorem concludeDry_keeps_served : Keeps WaitingInService concludeDry := by
  intro s h
  rw [concludeDry_eq]
  exact h

theorem concludePurge_keeps_served : Keeps WaitingInService concludePurge := by
  intro s h
  rw [concludePurge_frame]
  exact h

theorem enterState_keeps_served (op : OpState) : Keeps WaitingInService (enterState op) := by
  intro s h
  rw [enterState_eq]
  exact h

theorem warmReset_serves (s : State) : WaitingInService (warmReset s) := .of_empty (by rw [warmReset_eq])

theorem endWindDown_keeps_served : Keeps WaitingInService endWindDown := by
  intro s h
  obtain ⟨he, -⟩ | ⟨he, -⟩ := endWindDown_cases s
  · rwa [he]
  · rw [he]
    exact warmReset_serves s

theorem conclude_keeps_served : Keeps WaitingInService conclude :=
  fun s h => endWindDown_keeps_served _ (concludePurge_keeps_served _ (concludeDry_keeps_served s h))

theorem takeOwedReset_keeps_served : Keeps WaitingInService takeOwedReset := by
  intro s h
  unfold takeOwedReset
  split
  · exact warmReset_serves s
  · exact h

/-- The block of the state controller has no part in the queues. -/
theorem withCtl_served {s : State} (h : WaitingInService s) (c : Controller) : WaitingInService { s with ctl := c } := h

theorem coldResetEnd_keeps_served (straps : BitVec 5) (estop airlow : Bool) :
    Keeps WaitingInService (coldResetEnd straps estop airlow) := by
  intro s h
  have hgrant : WaitingInService (grantAll (requestCloseAll { s with
      ctl := { s.ctl with rstn := false }
      clk := LineClock.restarted coldPeriod
      link := { s.link with address := strapAddress straps } })) := grantAll_keeps_served _ h
  have hestop : ∀ u, WaitingInService u → WaitingInService (if estop then coldEstop u else u) := by
    intro u hu
    split
    · exact enterState_keeps_served .halt _ (withCtl_served hu _)
    · exact hu
  have hairlow : ∀ u, WaitingInService u → WaitingInService (if airlow then coldAirlow u else u) := by
    intro u hu
    split <;> exact hu
  exact hairlow _ (hestop _ hgrant)

/-! ### Nozzle failures -/

/-- A nozzle that is made FAILED loses its WAITING entries if it was in service; any other has none (R74, R134). -/
theorem makeFailed_keeps_served (g : Nat) (cause : FailureCause) : Keeps WaitingInService (makeFailed g cause) := by
  intro s h
  have hothers : ∀ g', g' ≠ g →
      (s.setNozzle g { s.nozzle g with state := .failed, cause := cause }).nozzle g' = s.nozzle g' :=
    fun g' hg => nozzle_setNozzle_other s hg _
  have hout : (s.nozzle g).state ≠ .inService →
      WaitingInService (s.setNozzle g { s.nozzle g with state := .failed, cause := cause }) :=
    fun hout => h.setNozzle fun hin => absurd hin hout
  unfold makeFailed
  simp only
  split
  · exact h
  · split
    · exact abandonWaiting_serves h rfl hothers
    · exact hout ‹_›

theorem nozzleEffect_keeps_served (t : Transaction) (result : LastResult) (m : Nat) :
    Keeps WaitingInService (nozzleEffect t result m) := by
  intro s h
  have hset : ∀ r : NozzleRecord, r.state = (s.nozzle t.nozzle).state → WaitingInService (s.setNozzle t.nozzle r) :=
    fun r hr => h.setNozzle hr.trans
  unfold nozzleEffect
  split
  · refine hset _ ?_
    simp only
    split <;> rfl
  · have hmissed := hset { s.nozzle t.nozzle with
      misses := min ((s.nozzle t.nozzle).misses + 1) Config.missMax, lastResult := .noReply } rfl
    unfold openNoReply
    simp only
    split
    · exact makeFailed_keeps_served _ _ _ hmissed
    · exact hmissed
  · exact makeFailed_keeps_served _ _ _ (hset { s.nozzle t.nozzle with lastResult := .coilFault } rfl)
  · exact hset _ rfl
  · exact makeFailed_keeps_served _ _ _ (hset { s.nozzle t.nozzle with lastResult := .noReply } rfl)
  · exact makeFailed_keeps_served _ _ _ (hset { s.nozzle t.nozzle with lastResult := .coilFault } rfl)
  · exact h

theorem openCompleted_keeps_served (g : Nat) (e : Entry) : Keeps WaitingInService (openCompleted g e) := by
  intro s h
  unfold openCompleted
  simp only
  split
  · refine updateEntry_keeps_served g e.ident ?_ (s.setOpenCount _ _) h
    exact nofun
  · refine updateEntry_keeps_served g e.ident ?_ s h
    exact nofun

theorem dispatchOpen_keeps_served (g ident : Nat) (result : LastResult) :
    Keeps WaitingInService (dispatchOpen g ident result) := by
  intro s h
  unfold dispatchOpen
  split
  · exact h
  · rename_i e _
    have hcount : ∀ c, WaitingInService (countChute (chuteOf g) c s) := fun _ => h
    simp only
    split
    · exact openCompleted_keeps_served g e _ (hcount _)
    · refine updateEntry_keeps_served g ident ?_ _ (hcount _)
      exact fun _ => id

theorem dispatchEffect_keeps_served (t : Transaction) (result : LastResult) :
    Keeps WaitingInService (dispatchEffect t result) := by
  intro s h
  unfold dispatchEffect
  split
  · exact dispatchOpen_keeps_served _ _ _ s h
  · unfold dispatchClose
    split
    · split
      · exact removeEntry_keeps_served _ _ s h
      · exact h
    · exact h
  · exact h

theorem completeTransaction_keeps_served (c : Chute) (t : Transaction) (result : LastResult) (m : Nat) :
    Keeps WaitingInService (completeTransaction c t result m) := by
  intro s h
  refine conclude_keeps_served _ (freeBus_keeps_served _ _ (dispatchEffect_keeps_served _ _ _
    (nozzleEffect_keeps_served _ _ _ _ ?_)))
  split <;> exact h

theorem closeAllSendEnds_keeps_served (c : Chute) (t : Transaction) :
    Keeps WaitingInService (closeAllSendEnds c t) := by
  intro s h
  unfold closeAllSendEnds
  split
  · exact h
  · refine conclude_keeps_served _ (freeBus_keeps_served _ _ ?_)
    split <;> exact h

theorem replyWaitExpiry_keeps_served (c : Chute) : Keeps WaitingInService (replyWaitExpiry c) := by
  intro s h
  have hretry : ∀ t : Transaction,
      WaitingInService (if t.retry then completeTransaction c t .noReply 0 s else retry c t s) := by
    intro t
    split
    · exact completeTransaction_keeps_served c t _ _ s h
    · exact h
  unfold replyWaitExpiry
  split
  · exact h
  · split
    · exact h
    · split
      · split
        · exact closeAllSendEnds_keeps_served c _ s h
        · exact hretry _
        · exact hretry _
      · exact h

theorem valveReply_keeps_served (c : Chute) (lane : Lane) (bytes : List Byte) :
    Keeps WaitingInService (valveReply c lane bytes) := by
  intro s h
  unfold valveReply
  split
  · split
    · split
      · exact closeAllSendEnds_keeps_served c _ s h
      · exact completeTransaction_keeps_served c _ _ _ s h
      · exact completeTransaction_keeps_served c _ _ _ s h
    · exact h
  · exact h

/-! ### Starts and ends of entries -/

/-- An entry that is admitted leaves WAITING (R97). -/
theorem admitEntry_keeps_served (g : Nat) (x : Entry) : Keeps WaitingInService (admitEntry g x) := by
  intro s h
  unfold admitEntry
  simp only
  split
  all_goals
    refine updateEntry_keeps_served g x.ident ?_ (s.setOpenCount _ _) h
    exact nofun

theorem judgeStart_keeps_served (g : Nat) (x : Entry) : Keeps WaitingInService (judgeStart g x) := by
  intro s h
  have hstarve : WaitingInService (starveEntry g x s) := removeEntry_keeps_served g x.ident s h
  unfold judgeStart arbitrate
  simp only
  split
  · exact admitEntry_keeps_served g x s h
  · split
    · split
      · split
        · exact admitEntry_keeps_served g x _ (closeEarly_keeps_served _ _ (countChute _ _ s) h)
        · exact hstarve
      · exact hstarve
    · exact hstarve

theorem entryStart_keeps_served (g : Nat) : Keeps WaitingInService (entryStart g) := by
  intro s h
  unfold entryStart
  split
  · exact conclude_keeps_served _ (grantNext_keeps_served _ _ (judgeStart_keeps_served g _ s h))
  · exact h

theorem endEntry_keeps_served (g : Nat) (e : Entry) : Keeps WaitingInService (endEntry g e) := by
  intro s h
  unfold endEntry
  simp only
  split
  · refine updateEntry_keeps_served g e.ident ?_ (s.setOpenCount _ _) h
    exact nofun
  · exact removeEntry_keeps_served g e.ident (s.setOpenCount _ _) h

theorem entryEnd_keeps_served (g : Nat) : Keeps WaitingInService (entryEnd g) := by
  intro s h
  unfold entryEnd
  split
  · exact conclude_keeps_served _ (grantNext_keeps_served _ _ (endEntry_keeps_served g _ s h))
  · exact h

/-! ### Giving up work -/

/-- The sightings given up have no part in the queues. -/
theorem giveUpPending_keeps_served : Keeps WaitingInService fun s => emptyHeld (emptyIntake (abandonPlanning s)) := by
  intro s h
  simp only [giveUpPending_eq]
  exact h

theorem estopAssertion_keeps_served : Keeps WaitingInService estopAssertion := by
  intro s h
  unfold estopAssertion
  split
  · exact h
  · exact .of_empty (by simp only [emergencyStop_eq])

theorem windDownLimitExpiry_keeps_served : Keeps WaitingInService windDownLimitExpiry := by
  intro s h
  unfold windDownLimitExpiry
  split
  · split
    · have hreduced := reduceQueues_keeps_served _ (giveUpPending_keeps_served s h)
      exact conclude_keeps_served _ (grantAll_keeps_served _ (withCtl_served hreduced _))
    · exact h
  · exact h

/-! ### The sighting port, the planner and the held list -/

theorem takeVerdict_keeps_served (c : Chute) (tag : Byte) (confirm : Bool) :
    Keeps WaitingInService (takeVerdict c tag confirm) := by
  intro s h
  unfold takeVerdict
  split
  · split
    · refine endWindDown_keeps_served _ ?_
      split
      · exact placeAndCount_keeps_served _ _ _ _ (removeHeld c tag s) h
      · exact h
    · unfold verdictWithoutEntry
      split <;> exact h
  · exact h

theorem completeRecord_keeps_served (bytes : List Byte) : Keeps WaitingInService (completeRecord bytes) := by
  intro s h
  unfold completeRecord
  split
  · exact h
  · exact h
  · unfold admitSighting
    split
    · split <;> exact h
    · exact h
  · exact takeVerdict_keeps_served _ _ _ (setRecordRx (.collecting []) s) h

theorem recordByte_keeps_served (b : Byte) : Keeps WaitingInService fun s => recordByte s b := by
  intro s h
  simp only [recordByte]
  split
  · exact h
  · split
    · exact h
    · exact completeRecord_keeps_served _ s h

theorem applyPolicy_keeps_served (e : HeldEntry) : Keeps WaitingInService (applyPolicy e) := by
  intro s h
  unfold applyPolicy
  split
  · exact placeAndCount_keeps_served _ _ _ _ s h
  · exact h

theorem handOff_keeps_served (e : HeldEntry) : Keeps WaitingInService (handOff e) := by
  intro s h
  unfold handOff
  split
  · exact applyPolicy_keeps_served e (pushTag _ _ (countSighting _ _ _ s)) h
  · split
    · exact applyPolicy_keeps_served e (countSighting _ _ _ (countChute _ _ s)) h
    · split
      · exact applyPolicy_keeps_served e (countSighting _ _ _ (setNotice _ _ s)) h
      · exact h

theorem deadlineExpiry_keeps_served (c : Chute) (tag : Byte) : Keeps WaitingInService (deadlineExpiry c tag) := by
  intro s h
  unfold deadlineExpiry
  split
  · split
    · exact endWindDown_keeps_served _
        (applyPolicy_keeps_served _ (pushTag _ _ (countSighting _ _ _ (removeHeld c tag s))) h)
    · exact h
  · exact h

theorem nozzleSetStep_keeps_served (r : PlanRecord) : Keeps WaitingInService (nozzleSetStep r) := by
  intro s h
  unfold nozzleSetStep
  simp only
  split
  · exact h
  · unfold formNozzleSet
    simp only
    split
    · exact h
    · split <;> exact h

theorem confidenceStep_keeps_served (r : PlanRecord) : Keeps WaitingInService (confidenceStep r) := by
  intro s h
  unfold confidenceStep
  simp only
  split
  · exact h
  · exact handOff_keeps_served _ (endPlanning s) h

/-! ### Line clock and purge -/

theorem lsyncPulse_keeps_served : Keeps WaitingInService lsyncPulse := by
  intro s h
  have hsettle : ∀ n t, WaitingInService t → WaitingInService (judgeSettle n t) := by
    intro n t ht
    unfold judgeSettle
    split
    · exact ht
    · split_ifs <;> exact ht
  unfold lsyncPulse
  simp only
  split
  · exact h
  · refine hsettle _ _ ?_
    split <;> exact h

theorem makeTurn_keeps_served (p : Purge) : Keeps WaitingInService (makeTurn p) := by
  intro s h
  exact conclude_keeps_served _ (withCtl_served (purgeOffer_keeps_served _ _ 3 _
    (purgeOffer_keeps_served _ _ 2 _ (purgeOffer_keeps_served _ _ 1 _ (purgeOffer_keeps_served _ _ 0 s h)))) _)

theorem purgeTurn_keeps_served : Keeps WaitingInService purgeTurn := by
  intro s h
  unfold purgeTurn
  split
  · split
    · exact makeTurn_keeps_served _ s h
    · exact h
  · exact h

/-- Every event of the part and of its inputs leaves WAITING entries to nozzles in service. -/
theorem events_keep_served : EventsKeep WaitingInService where
  heldInReset _ _ := .of_empty rfl
  coldResetEnd := coldResetEnd_keeps_served
  lsyncPulse := lsyncPulse_keeps_served
  lsyncLow _ h := h
  recordByte := recordByte_keeps_served
  recordGap s h := by
    unfold recordGap
    split <;> exact h
  collecting _ h := h
  plannerTake s h := by
    unfold plannerTake
    split <;> exact h
  endWindDown := endWindDown_keeps_served
  ageStep r s _ h := by
    unfold ageStep
    simp only
    split <;> exact h
  bankStep _ _ _ h := h
  bandStep r s _ h := by
    unfold bandStep
    simp only
    split <;> exact h
  nozzleSetStep r s _ := nozzleSetStep_keeps_served r s
  sizeBandStep _ _ _ h := h
  widthStep r s _ h := by
    unfold widthStep
    simp only
    split <;> exact h
  flightStep _ _ _ h := h
  seenTimeStep _ _ _ h := h
  perNozzleTimesStep _ _ _ h := h
  leadStep r s _ h := by
    unfold leadStep
    simp only
    split <;> exact h
  confidenceStep r s _ := confidenceStep_keeps_served r s
  placement r s _ h := placeAndCount_keeps_served _ _ _ _ (endPlanning s) h
  deadlineExpiry := deadlineExpiry_keeps_served
  entryStart := entryStart_keeps_served
  entryEnd := entryEnd_keeps_served
  grant c s h := conclude_keeps_served _ (grantNext_keeps_served c s h)
  commandSent c s h := by
    unfold commandSent
    simp only
    split
    · split <;> exact h
    · exact h
  replyWaitExpiry := replyWaitExpiry_keeps_served
  valveReply := valveReply_keeps_served
  estopAssertion := estopAssertion_keeps_served
  estopRelease _ h := h
  airlowAssertion s h := by
    unfold airlowAssertion
    split <;> exact h
  airlowRelease _ h := h
  purgeTurn := purgeTurn_keeps_served
  concludePurge := concludePurge_keeps_served
  windDownLimitExpiry := windDownLimitExpiry_keeps_served
  warmReset s _ := warmReset_serves s
  concludeDry := concludeDry_keeps_served
  replyTurnaroundEnd s h := by
    unfold replyTurnaroundEnd
    split
    · split <;> exact h
    · exact h
  replySent s h := by
    unfold replySent
    split <;> exact h

/-! ### Commands -/

theorem linkBlind_served : LinkBlind WaitingInService where
  setFrameRx _ _ h := h
  controlError _ _ h := h
  giveReply _ _ _ h := h

theorem goStandby_keeps_served (p : List Byte) : KeepsCmd WaitingInService (cmdGoStandby p) := by
  intro s h
  have ht := takeOwedReset_keeps_served s h
  unfold cmdGoStandby
  split
  · simp only
    split
    · exact ht
    · exact enterState_keeps_served .standby _ (abandonOrigin_keeps_served .sighting
        (emptyRings (emptyHeld (emptyIntake (abandonPlanning (closeWindow (takeOwedReset s))))))
        (giveUpPending_keeps_served (closeWindow (takeOwedReset s)) ht))
    · exact enterState_keeps_served .standby _ (abandonOrigin_keeps_served .purge
        { closeWindow (takeOwedReset s) with ctl := _ } ht)
    · exact keeps_ite ht (enterState_keeps_served .standby (closeWindow (takeOwedReset s)) ht)
    · exact ht
  · exact h

theorem goRun_keeps_served (p : List Byte) : KeepsCmd WaitingInService (cmdGoRun p) := by
  intro s h
  have ht := takeOwedReset_keeps_served s h
  unfold cmdGoRun
  split
  · exact keeps_ite ht <| keeps_ite ht <| keeps_ite ht <| keeps_ite ht <| keeps_ite ht <|
      enterState_keeps_served .run (closeWindow (takeOwedReset s)) ht
  · exact h

theorem startPurge_keeps_served (rounds width spacing : Nat) :
    Keeps WaitingInService (startPurge rounds width spacing) := by
  intro s h
  unfold startPurge
  simp only
  refine makeTurn_keeps_served _ _ (enterState_keeps_served .purge _ ?_)
  exact h

theorem purge_keeps_served (p : List Byte) : KeepsCmd WaitingInService (cmdPurge p) := by
  intro s h
  have ht := takeOwedReset_keeps_served s h
  unfold cmdPurge
  split
  · refine keeps_ite ht (keeps_ite ht ?_)
    simp only
    exact startPurge_keeps_served _ _ _ _ ht
  · exact h

theorem restart_keeps_served (p : List Byte) : KeepsCmd WaitingInService (cmdRestart p) := by
  intro s h
  have ht := takeOwedReset_keeps_served s h
  unfold cmdRestart
  split
  · exact keeps_ite ht (endWindDown_keeps_served _ (enterState_keeps_served .windDown
      (closeWindow { takeOwedReset s with ctl := _ }) ht))
  · exact h

theorem dryOn_keeps_served (p : List Byte) : KeepsCmd WaitingInService (cmdDryOn p) := by
  intro s h
  have ht := takeOwedReset_keeps_served s h
  have hdry : Keeps WaitingInService dryOn := by
    intro u hu
    unfold dryOn
    split
    · exact hu
    · exact concludeDry_keeps_served { u with ctl := _ } hu
  unfold cmdDryOn
  split
  · exact keeps_ite (hdry (closeWindow (takeOwedReset s)) ht) ht
  · exact h

/-- A state written to a nozzle in service either leaves it in service or masks it (R138). -/
theorem apply_state (f : NozzleFields) {r : NozzleRecord} (h : r.state = .inService) :
    (f.apply r).state = .inService ∨ (f.apply r).state = .masked := by
  unfold NozzleFields.apply NozzleRecord.writeState
  simp only
  split
  · split
    · exact .inr rfl
    · exact .inl (by simp [h])
  · exact .inl h

theorem writeNozzle_keeps_served (g : Nat) (f : NozzleFields) : Keeps WaitingInService (writeNozzle g f) := by
  intro s h
  unfold writeNozzle
  simp only
  split
  · exact conclude_keeps_served _ (abandonWaiting_serves h rfl fun g' hg => nozzle_setNozzle_other s hg _)
  · rename_i hstays
    exact h.setNozzle fun hin => (apply_state f hin).resolve_right fun hm => hstays ⟨hin, hm⟩

theorem nozzleWrite_keeps_served (p : List Byte) : KeepsCmd WaitingInService (cmdNozzleWrite p) := by
  intro s h
  unfold cmdNozzleWrite
  split
  · split
    · exact h
    · exact keeps_ite h <| keeps_ite h <| keeps_ite h <| keeps_ite h <| writeNozzle_keeps_served _ _ s h
  · exact h

theorem test_keeps_served (p : List Byte) : KeepsCmd WaitingInService (cmdTest p) := by
  intro s h
  unfold cmdTest
  split
  · exact keeps_ite h <| keeps_ite h <| keeps_ite h <| keeps_ite h <| offer_keeps_served _ _ _ _ _ (closeWindow s) h
  · exact h

theorem setNumeric_keeps_served {id chute : Byte} {allowed : State → Bool} {lo hi : Nat}
    {store : Nat → State → State} {value : Nat} (hstore : ∀ v, Keeps WaitingInService (store v)) :
    KeepsCmd WaitingInService (setNumeric id chute allowed lo hi store value) :=
  fun s h => keeps_ite (hstore _ s h) h

theorem withValue_keeps_served {f : Byte → Nat → State → State × Answer}
    (hf : ∀ c v, KeepsCmd WaitingInService (f c v)) (rest : List Byte) :
    KeepsCmd WaitingInService (withValue f rest) := by
  intro s h
  unfold withValue
  split
  · exact hf _ _ s h
  · exact h

/-- The settings have no part in the queues. -/
theorem updateSettings_keeps_served (f : Settings → Settings) : Keeps WaitingInService (updateSettings f) :=
  fun _ h => h

theorem setSetting_keeps_served {id : Byte} {allowed : State → Bool} {lo hi : Nat} {f : Nat → Settings → Settings}
    (rest : List Byte) : KeepsCmd WaitingInService
      (withValue (fun _ => setNumeric id 0 allowed lo hi fun v => updateSettings (f v)) rest) :=
  withValue_keeps_served (fun _ _ => setNumeric_keeps_served fun _ => updateSettings_keeps_served _) rest

/-- Every command leaves WAITING entries to nozzles in service. -/
theorem commands_keep_served : CommandsKeep WaitingInService where
  poll p s h := by
    unfold cmdPoll
    split
    · split <;> exact h
    · exact h
  notices p s h := by
    unfold cmdNotices
    split <;> exact h
  rearm p s h := by
    unfold cmdRearm
    split <;> exact h
  goRun := goRun_keeps_served
  goStandby := goStandby_keeps_served
  purge := purge_keeps_served
  restart := restart_keeps_served
  clearCold p s h := by
    unfold cmdClearCold
    split
    · exact takeOwedReset_keeps_served s h
    · exact h
  dryOn := dryOn_keeps_served
  dryOff p s h := by
    have ht := takeOwedReset_keeps_served s h
    unfold cmdDryOff
    split
    · exact keeps_ite ht ht
    · exact h
  window p s h := by
    have hopen : ∀ w, WaitingInService (openWindow w s) := fun w => by
      unfold openWindow
      simp only
      split <;> exact h
    unfold cmdWindow
    split
    · split
      · exact h
      · exact keeps_ite h <| keeps_ite h <| keeps_ite h <| hopen _
    · exact h
  put p s h := by
    unfold cmdPut
    refine keeps_ite h ?_
    split
    · exact h
    · refine keeps_ite h ?_
      split
      · exact h
      · rw [putEntry_eq]
        exact h
  get p s h := by
    unfold cmdGet
    split
    · split
      · exact h
      · exact keeps_ite h h
    · exact h
  requestSwap ls s h := keeps_ite h <| keeps_ite h <| keeps_ite h h
  swapCancel p s h := by
    unfold cmdSwapCancel
    split
    · exact keeps_ite h h
    · exact h
  nozzleRead p s h := by
    unfold cmdNozzleRead
    split
    · exact keeps_ite h h
    · exact h
  nozzleWrite := nozzleWrite_keeps_served
  test := test_keeps_served
  lane p s h := by
    unfold cmdLane
    split
    · split <;> exact h
    · exact h
  query p s h := by
    unfold cmdQuery
    split
    · split <;> exact h
    · exact h
  tally p s h := by
    have hclear : ∀ (clear : Byte) n, WaitingInService (closeWindow (if clear = 1 then clearTally n s else s)) :=
      fun clear n => by
        split
        · cases n <;> exact h
        · exact h
    unfold cmdTally
    split
    · refine keeps_ite h ?_
      split
      · exact h
      · exact hclear _ _
    · exact h
  setAirTrim := setSetting_keeps_served
  setLinePeriod := withValue_keeps_served fun _ _ => setNumeric_keeps_served fun _ _ h => h
  setMaxAge := setSetting_keeps_served
  setLeadMin := setSetting_keeps_served
  setWidthMin rest s := setSetting_keeps_served rest s
  setWidthMax rest s := setSetting_keeps_served rest s
  setWidthCap rest s := setSetting_keeps_served rest s
  setValveGap := withValue_keeps_served fun c v s h => by
    show WaitingInService (Prod.fst (match chuteByte c with | none => _ | some _ => _))
    split
    · exact h
    · exact setNumeric_keeps_served (fun _ => updateSettings_keeps_served _) s h
  setReplyWait := setSetting_keeps_served
  setMissLimit := setSetting_keeps_served
  setWindDownLimit := setSetting_keeps_served
  setGroupAddress := withValue_keeps_served fun _ _ _ h => keeps_ite h h
  setNoticeMask := withValue_keeps_served fun _ _ _ h => h

/-- Settles O58: entries become WAITING by an offer alone, which asks for service, and service ends where the WAITING
entries are abandoned; every event and every command comes down to such operations. -/
theorem stepKeepsWaitingInService : Obligations.StepKeepsWaitingInService := fun _ _ hs h =>
  step_keeps (fun _ _ h => h) (fun _ h => h) (exec_keeps linkBlind_served commands_keep_served events_keep_served) hs h

end Sys2Proof.Machine
end

section
/-! Offers (O17, O18): what an offer answers, entry by entry that it touches (R65 to R68, R155), and the order that it keeps
(R61). -/

namespace Sys2Proof.Machine

/-! ### The answer of an offer -/

/-- The entries of a nozzle's queue that the firing [c, e) touches (R66). -/
def touchedEntries (s : State) (g : Nat) (c e : Time) : List Entry :=
  (s.queue g).filter (Entry.touches (s.settings.valveGap.get (chuteOf g)) c e)

section
variable {s : State} {g : Nat} {c e : Time}

theorem offer_of_out (prio : Nat) (o : Origin) (h : (s.nozzle g).state ≠ .inService) :
    offer g c e prio o s = (s, .blind) := by
  simp [offer, State.inService, h]

/-- The new entry of an offer that touches nothing (R67). -/
def newEntry (s : State) (c e : Time) (prio : Nat) (o : Origin) : Entry :=
  ⟨s.firing.nextIdent, c, e, prio, o, .waiting, none⟩

/-- An offer that touches nothing creates an entry where the queue has room (R67). -/
theorem offer_of_untouched (prio : Nat) (o : Origin) (h : (s.nozzle g).state = .inService)
    (ht : touchedEntries s g c e = []) : offer g c e prio o s =
      if (s.queue g).length < 8 then
        ({ s with firing := { s.firing with
            queues := Tab.set [] s.firing.queues g (insertEntry (newEntry s c e prio o) (s.queue g))
            nextIdent := s.firing.nextIdent + 1 } }, .created s.firing.nextIdent)
      else (s, .crowded) := by
  unfold touchedEntries at ht
  simp only [offer, State.inService, h, ht, beq_self_eq_true, Bool.not_true, Bool.false_eq_true, if_false]
  rfl

/-- Whether a firing that touches `y`, the earliest, and `others` is refused (R68). -/
def MergeRefused (s : State) (y : Entry) (others : List Entry) (m : Entry) : Prop :=
  (∃ x ∈ y :: others, x.phase = .closing) ∨ (∃ x ∈ others, x.phase ≠ .waiting) ∨
    s.settings.widthCap < spanOf m.start m.stop

theorem offer_of_refused {y : Entry} {others : List Entry} {prio : Nat} (o : Origin)
    (h : (s.nozzle g).state = .inService) (ht : touchedEntries s g c e = y :: others)
    (hr : MergeRefused s y others (mergeEntry y others c e prio)) : offer g c e prio o s = (s, .crowded) := by
  unfold touchedEntries at ht
  unfold MergeRefused at hr
  have hany : ((y :: others).any (fun x => x.phase == .closing) || others.any (fun x => x.phase != .waiting)
      || decide (s.settings.widthCap < spanOf (mergeEntry y others c e prio).start (mergeEntry y others c e prio).stop))
      = true := by
    simpa only [Bool.or_eq_true, List.any_eq_true, beq_iff_eq, bne_iff_ne, decide_eq_true_eq, or_assoc] using hr
  simp only [offer, State.inService, h, ht, hany, beq_self_eq_true, Bool.not_true, Bool.false_eq_true, if_false,
    if_true]

/-- An offer that may be merged is merged into the earliest entry it touches, and the others are absorbed (R68, R155). -/
theorem offer_of_merged {y : Entry} {others : List Entry} {prio : Nat} (o : Origin)
    (h : (s.nozzle g).state = .inService) (ht : touchedEntries s g c e = y :: others)
    (hr : ¬MergeRefused s y others (mergeEntry y others c e prio)) : offer g c e prio o s =
      ({ s with
        firing := { s.firing with
          queues := Tab.set [] s.firing.queues g (absorb (mergeEntry y others c e prio) others (s.queue g)) }
        ctl := { s.ctl with
          purge := s.ctl.purge.map fun p => { p with set := mergeSet g y others p.set } } }, .merged y.ident) := by
  unfold touchedEntries at ht
  unfold MergeRefused at hr
  have hany : ((y :: others).any (fun x => x.phase == .closing) || others.any (fun x => x.phase != .waiting)
      || decide (s.settings.widthCap < spanOf (mergeEntry y others c e prio).start (mergeEntry y others c e prio).stop))
      = false := by
    rw [← Bool.not_eq_true]
    simpa only [Bool.or_eq_true, List.any_eq_true, beq_iff_eq, bne_iff_ne, decide_eq_true_eq, or_assoc] using hr
  simp only [offer, State.inService, h, ht, hany, beq_self_eq_true, Bool.not_true, Bool.false_eq_true, if_false]
  rfl

/-- The purge set after a merge: an entry absorbed is in it no more, and the one that absorbed it is (R155). -/
theorem mem_mergeSet {y : Entry} {others : List Entry} {set : List (Nat × Nat)} {x : Nat × Nat} :
    x ∈ mergeSet g y others set ↔ (x ∈ set ∧ ¬(x.1 = g ∧ ∃ z ∈ others, z.ident = x.2)) ∨
      (x = (g, y.ident) ∧ ∃ z ∈ others, (g, z.ident) ∈ set) := by
  have habsorbed : (set.any fun p => p.1 == g && others.any fun o => o.ident == p.2) = true ↔
      ∃ z ∈ others, (g, z.ident) ∈ set := by
    simp only [List.any_eq_true, Bool.and_eq_true, beq_iff_eq]
    constructor
    · rintro ⟨p, hmem, hg, z, hz, hi⟩
      obtain rfl : p = (g, z.ident) := Prod.ext hg hi.symm
      exact ⟨z, hz, hmem⟩
    · rintro ⟨z, hz, hmem⟩
      exact ⟨_, hmem, rfl, z, hz, rfl⟩
  have hkept : ∀ p, p ∈ set.filter (fun p => !(p.1 == g && others.any fun o => o.ident == p.2)) ↔
      p ∈ set ∧ ¬(p.1 = g ∧ ∃ z ∈ others, z.ident = p.2) := by
    intro p
    rw [List.mem_filter, Bool.not_eq_true', ← Bool.not_eq_true]
    simp only [Bool.and_eq_true, List.any_eq_true, beq_iff_eq]
  unfold mergeSet
  simp only [habsorbed, Bool.and_eq_true, Bool.not_eq_true', ← Bool.not_eq_true, List.contains_iff_mem]
  split
  · rename_i h
    rw [List.mem_append, List.mem_singleton, hkept]
    exact or_congr_right ⟨fun he => ⟨he, h.1⟩, And.left⟩
  · rename_i h
    rw [hkept]
    refine ⟨.inl, fun hx => hx.elim id fun ⟨he, ha⟩ => ?_⟩
    rw [he, ← hkept]
    exact not_not.1 fun hn => h ⟨ha, hn⟩

end

/-- Settles O17: each answer by its own equation. -/
theorem offerIsAnsweredByTheTouchTest : Obligations.OfferIsAnsweredByTheTouchTest := by
  intro s g prio c e o gap touching
  refine ⟨offer_of_out prio o, fun hin => ⟨fun ht hfull => ?_, fun ht hroom => ?_, ?_⟩⟩
  · rw [offer_of_untouched prio o hin ht, if_neg (by omega)]
  · obtain ⟨earlier, later, hq, hearlier, hlater, hi⟩ := insertEntry_split (newEntry s c e prio o) (s.queue g)
    rw [offer_of_untouched prio o hin ht, if_pos hroom, hi]
    exact ⟨_, earlier, later, rfl, hq, hearlier, hlater, Tab.get_set_same _ _ _ _,
      fun g' hg => Tab.get_set_other _ _ _ hg, rfl⟩
  · intro y others ht merged
    refine ⟨fun hclosing => ?_, fun hstarted => ?_, fun hwide => ?_, fun hopen hwaiting hfits => ?_⟩
    · exact offer_of_refused o hin ht (.inl (ht ▸ hclosing))
    · exact offer_of_refused o hin ht (.inr (.inl hstarted))
    · exact offer_of_refused o hin ht (.inr (.inr hwide))
    · have hnot : ¬MergeRefused s y others merged := by
        rintro (⟨x, hx, hc⟩ | ⟨x, hx, hw⟩ | hwide)
        · exact hopen x (ht ▸ hx) hc
        · exact hw (hwaiting x hx)
        · exact Nat.not_lt.2 hfits hwide
      refine ⟨_, offer_of_merged o hin ht hnot, Tab.get_set_same _ _ _ _, fun g' hg => Tab.get_set_other _ _ _ hg,
        fun hp => ?_, fun p hp => ⟨mergeSet g y others p.set, ?_, fun x => mem_mergeSet⟩, rfl⟩
      · simp only [hp, Option.map_none]
      · simp only [hp, Option.map_some]

/-! ### Times of one span (R61) -/

section
variable {base : Time}

/-- Within a span that holds them, times stand in the order of their distances from its base. -/
theorem before_iff_offset {a b : Time} (ha : offsetFrom base a < 2147483648) (hb : offsetFrom base b < 2147483648) :
    before a b = true ↔ offsetFrom base a < offsetFrom base b := by
  unfold offsetFrom at *
  simp only [before, Bool.and_eq_true, decide_eq_true_eq]
  bv_omega

theorem offsetFrom_injective {a b : Time} (h : offsetFrom base a = offsetFrom base b) : a = b := by
  unfold offsetFrom at h
  bv_omega

theorem atOrBefore_iff_offset {a b : Time} (ha : offsetFrom base a < 2147483648)
    (hb : offsetFrom base b < 2147483648) : atOrBefore a b = true ↔ offsetFrom base a ≤ offsetFrom base b := by
  rw [atOrBefore, Bool.or_eq_true, beq_iff_eq, before_iff_offset ha hb, Nat.le_iff_lt_or_eq]
  exact ⟨fun h => h.symm.imp_right (congrArg _), fun h => h.symm.imp_left offsetFrom_injective⟩

theorem offsetFrom_plus {t : Time} {n : Nat} (h : offsetFrom base t + n < 4294967296) :
    offsetFrom base (plus t n) = offsetFrom base t + n := by
  unfold offsetFrom plus at *
  bv_omega

theorem offsetFrom_minus {t : Time} {n : Nat} (h : n ≤ offsetFrom base t) :
    offsetFrom base (minus t n) = offsetFrom base t - n := by
  unfold offsetFrom minus at *
  bv_omega

theorem offsetFrom_earlier {a b : Time} (ha : offsetFrom base a < 2147483648) (hb : offsetFrom base b < 2147483648) :
    offsetFrom base (earlier a b) = min (offsetFrom base a) (offsetFrom base b) := by
  have h := before_iff_offset (base := base) hb ha
  unfold earlier
  split
  · have := h.1 ‹_›
    omega
  · have := mt h.2 ‹_›
    omega

theorem offsetFrom_later {a b : Time} (ha : offsetFrom base a < 2147483648) (hb : offsetFrom base b < 2147483648) :
    offsetFrom base (later a b) = max (offsetFrom base a) (offsetFrom base b) := by
  have h := before_iff_offset (base := base) ha hb
  unfold later
  split
  · have := h.1 ‹_›
    omega
  · have := mt h.2 ‹_›
    omega

theorem spanOf_eq_offset {a b : Time} (h : offsetFrom base a ≤ offsetFrom base b) :
    spanOf a b = offsetFrom base b - offsetFrom base a := by
  unfold offsetFrom spanOf at *
  bv_omega

/-- The earliest start of a list of entries and of a time: no later than the time, and after whatever is before them
all. -/
theorem offsetFrom_foldl_earlier {l : List Entry} {t : Time} (ht : offsetFrom base t < 2147483648)
    (hl : ∀ x ∈ l, offsetFrom base x.start < 2147483648) :
    offsetFrom base (l.foldl (fun t x => earlier t x.start) t) ≤ offsetFrom base t ∧
      ∀ b, b ≤ offsetFrom base t → (∀ x ∈ l, b ≤ offsetFrom base x.start) →
        b ≤ offsetFrom base (l.foldl (fun t x => earlier t x.start) t) := by
  induction l generalizing t with
  | nil => exact ⟨le_rfl, fun b hb _ => hb⟩
  | cons x l ih =>
    have hx := offsetFrom_earlier ht (hl x (by simp))
    obtain ⟨hle, hbound⟩ := ih (t := earlier t x.start) (by omega) fun y hy => hl y (by simp [hy])
    refine ⟨hle.trans (by omega), fun b hb hall => hbound b ?_ fun y hy => hall y (by simp [hy])⟩
    have := hall x (by simp)
    omega

/-- The latest end of a list of entries and of a time: no earlier than the time, and before whatever is after them
all. -/
theorem offsetFrom_foldl_later {l : List Entry} {t : Time} (ht : offsetFrom base t < 2147483648)
    (hl : ∀ x ∈ l, offsetFrom base x.stop < 2147483648) :
    offsetFrom base t ≤ offsetFrom base (l.foldl (fun t x => later t x.stop) t) ∧
      ∀ b, offsetFrom base t ≤ b → (∀ x ∈ l, offsetFrom base x.stop ≤ b) →
        offsetFrom base (l.foldl (fun t x => later t x.stop) t) ≤ b := by
  induction l generalizing t with
  | nil => exact ⟨le_rfl, fun b hb _ => hb⟩
  | cons x l ih =>
    have hstop := hl x (by simp)
    have hx := offsetFrom_later ht hstop
    obtain ⟨hle, hbound⟩ := ih (t := later t x.stop) (by omega) fun y hy => hl y (by simp [hy])
    refine ⟨le_trans (hx ▸ le_max_left _ _) hle, fun b hb hall => hbound b ?_ fun y hy => hall y (by simp [hy])⟩
    have := hall x (by simp)
    omega

/-! ### The order that an offer keeps (R61) -/

variable {gap lo cap : Nat} {c e : Time} {q : List Entry}

/-- The touch test of R66, in distances from the base. -/
theorem touches_iff_offset {y : Entry} (hgap : gap ≤ 5000) (hy : FiringFits base lo cap y.start y.stop)
    (hf : FiringFits base lo cap c e) : y.touches gap c e = true ↔
      offsetFrom base y.start ≤ offsetFrom base e + gap ∧ offsetFrom base c ≤ offsetFrom base y.stop + gap := by
  obtain ⟨hy1, hy2, -, hy3⟩ := hy
  obtain ⟨hf1, hf2, -, hf3⟩ := hf
  have hminus : offsetFrom base (minus y.start gap) = offsetFrom base y.start - gap := offsetFrom_minus (by omega)
  have hplus : offsetFrom base (plus y.stop gap) = offsetFrom base y.stop + gap := offsetFrom_plus (by omega)
  rw [Entry.touches, Bool.and_eq_true, atOrBefore_iff_offset (base := base) (by omega) (by omega),
    atOrBefore_iff_offset (base := base) (by omega) (by omega), hminus, hplus]
  omega

/-- An entry that the firing does not touch lies wholly after it or wholly before it. -/
theorem apart_of_not_touches {y : Entry} (hgap : gap ≤ 5000) (hy : FiringFits base lo cap y.start y.stop)
    (hf : FiringFits base lo cap c e) (ht : y.touches gap c e ≠ true) :
    offsetFrom base e + gap < offsetFrom base y.start ∨ offsetFrom base y.stop + gap < offsetFrom base c := by
  rw [ne_eq, touches_iff_offset hgap hy hf] at ht
  omega

/-- An entry that touches none is inserted in its place (R67). -/
theorem QueueOrdered.insertEntry (hq : QueueOrdered base gap lo cap q) (hgap : gap ≤ 5000) (hlo : 1 ≤ lo) {x : Entry}
    (hx : FiringFits base lo cap x.start x.stop) (ht : ∀ y ∈ q, y.touches gap x.start x.stop ≠ true) :
    QueueOrdered base gap lo cap (insertEntry x q) := by
  obtain ⟨hfits, hpair⟩ := hq
  obtain ⟨earlier, later, rfl, hearlier, hlater, hi⟩ := insertEntry_split x q
  have hapart := fun y hy => apart_of_not_touches hgap (hfits y hy) hx (ht y hy)
  obtain ⟨hx1, hx2, -, hx3⟩ := id hx
  have hbefore : ∀ y ∈ earlier, offsetFrom base y.stop + gap ≤ offsetFrom base x.start := by
    intro y hy
    have hmem : y ∈ earlier ++ later := by simp [hy]
    obtain ⟨hy1, hy2, -, hy3⟩ := hfits y hmem
    have horder := mt (before_iff_offset (base := base) (a := x.start) (b := y.start) (by omega) (by omega)).2
      (by simp [hearlier y hy])
    have := hapart y hmem
    omega
  have hafter : ∀ y ∈ later, offsetFrom base x.stop + gap ≤ offsetFrom base y.start := by
    intro y hy
    have hmem : y ∈ earlier ++ later := by simp [hy]
    obtain ⟨hy1, hy2, -, hy3⟩ := hfits y hmem
    have hstart : offsetFrom base x.start < offsetFrom base y.start := by
      cases later with
      | nil => cases hy
      | cons z later =>
        obtain ⟨hz1, hz2, -, hz3⟩ := hfits z (by simp)
        have hz := (before_iff_offset (base := base) (a := x.start) (b := z.start) (by omega) (by omega)).1
          (hlater z (by simp))
        rcases List.mem_cons.1 hy with rfl | hy
        · exact hz
        · have := (List.pairwise_cons.1 (List.pairwise_append.1 hpair).2.1).1 y hy
          omega
    have := hapart y hmem
    omega
  rw [hi]
  refine ⟨fun y hy => ?_, ?_⟩
  · rcases List.mem_append.1 hy with hy | hy
    · exact hfits y (by simp [hy])
    · rcases List.mem_cons.1 hy with rfl | hy
      · exact hx
      · exact hfits y (by simp [hy])
  · obtain ⟨hpearlier, hplater, hcross⟩ := List.pairwise_append.1 hpair
    refine List.pairwise_append.2 ⟨hpearlier, List.pairwise_cons.2 ⟨hafter, hplater⟩, fun a ha b hb => ?_⟩
    rcases List.mem_cons.1 hb with rfl | hb
    · exact hbefore a ha
    · exact hcross a ha b hb

/-- Two entries lie apart by the gap, whichever comes first. -/
def Apart (base : Time) (gap : Nat) (a b : Entry) : Prop :=
  offsetFrom base a.stop + gap ≤ offsetFrom base b.start ∨ offsetFrom base b.stop + gap ≤ offsetFrom base a.start

theorem QueueOrdered.apart (hq : QueueOrdered base gap lo cap q) {a b : Entry} (ha : a ∈ q) (hb : b ∈ q)
    (hne : a ≠ b) : Apart base gap a b := by
  have hsymm : Std.Symm (Apart base gap) := ⟨fun _ _ => Or.symm⟩
  have hpair : q.Pairwise (Apart base gap) := hq.2.imp Or.inl
  exact hpair.forall ha hb hne

/-- The joined times of a firing and of the entries it touches: no later than each start, no earlier than each end, and no
further than the outermost. -/
structure Joins (base : Time) (c e : Time) (touched : List Entry) (y m : Entry) : Prop where
  ident : m.ident = y.ident
  start : offsetFrom base m.start ≤ offsetFrom base y.start
  stop : offsetFrom base y.stop ≤ offsetFrom base m.stop
  after : ∀ b, b ≤ offsetFrom base c → (∀ x ∈ touched, b ≤ offsetFrom base x.start) → b ≤ offsetFrom base m.start
  till : ∀ b, offsetFrom base e ≤ b → (∀ x ∈ touched, offsetFrom base x.stop ≤ b) → offsetFrom base m.stop ≤ b

/-- What a merge makes of the earliest touched entry joins the times (R68). -/
theorem mergeEntry_joins {y : Entry} {others : List Entry} (prio : Nat) (hf : FiringFits base lo cap c e)
    (hfits : ∀ x ∈ y :: others, FiringFits base lo cap x.start x.stop) :
    Joins base c e (y :: others) y (mergeEntry y others c e prio) := by
  obtain ⟨-, hf2, -, hf3⟩ := hf
  have hstart : ∀ x ∈ y :: others, offsetFrom base x.start < 2147483648 := fun x hx => by
    obtain ⟨-, hx2, -, hx3⟩ := hfits x hx
    omega
  have hstop : ∀ x ∈ y :: others, offsetFrom base x.stop < 2147483648 := fun x hx => by
    obtain ⟨-, -, -, hx3⟩ := hfits x hx
    omega
  have hsoon := offsetFrom_earlier (hstart y (by simp)) (show offsetFrom base c < 2147483648 by omega)
  have hlate := offsetFrom_later (hstop y (by simp)) (show offsetFrom base e < 2147483648 by omega)
  have hmin := offsetFrom_foldl_earlier (base := base) (l := others) (t := earlier y.start c)
    (by have := hstart y (by simp); omega) fun x hx => hstart x (by simp [hx])
  have hmax := offsetFrom_foldl_later (base := base) (l := others) (t := later y.stop e)
    (by have := hstop y (by simp); omega) fun x hx => hstop x (by simp [hx])
  refine ⟨rfl, ?_, le_trans (hlate ▸ le_max_left _ _) hmax.1, fun b hb hall => ?_, fun b hb hall => ?_⟩
  · simp only [mergeEntry]
    split
    · exact hmin.1.trans (by omega)
    · exact le_rfl
  · have hy := hall y (by simp)
    simp only [mergeEntry]
    split
    · exact hmin.2 b (by omega) fun x hx => hall x (by simp [hx])
    · exact hy
  · have hy := hall y (by simp)
    exact hmax.2 b (by omega) fun x hx => hall x (by simp [hx])

/-- An entry that the firing does not touch lies apart from what the touched ones become. -/
theorem apart_of_joins (hq : QueueOrdered base gap lo cap q) (hgap : gap ≤ 5000) (hlo : 1 ≤ lo)
    (hf : FiringFits base lo cap c e) {y m : Entry} (hm : Joins base c e (q.filter (Entry.touches gap c e)) y m)
    {a : Entry} (ha : a ∈ q) (ht : a.touches gap c e ≠ true) : Apart base gap m a := by
  obtain ⟨ha1, ha2, -, ha3⟩ := hq.1 a ha
  obtain ⟨hf1, hf2, -, hf3⟩ := id hf
  have htouched : ∀ x ∈ q.filter (Entry.touches gap c e),
      (offsetFrom base x.start ≤ offsetFrom base e + gap ∧ offsetFrom base c ≤ offsetFrom base x.stop + gap) ∧
      Apart base gap a x := by
    intro x hx
    obtain ⟨hxq, hxt⟩ := List.mem_filter.1 hx
    exact ⟨(touches_iff_offset hgap (hq.1 x hxq) hf).1 hxt, hq.apart ha hxq fun he => ht (he ▸ hxt)⟩
  rcases apart_of_not_touches hgap (hq.1 a ha) hf ht with hafter | hbefore
  · have := hm.till (offsetFrom base a.start - gap) (by omega) fun x hx => by
      have := htouched x hx
      unfold Apart at this
      omega
    exact .inl (by omega)
  · have := hm.after (offsetFrom base a.stop + gap) (by omega) fun x hx => by
      have := htouched x hx
      unfold Apart at this
      omega
    exact .inr this

/-- The queue in which the touched entries have become one is in order (R61, R68). -/
theorem QueueOrdered.absorb (hq : QueueOrdered base gap lo cap q) (hgap : gap ≤ 5000) (hlo : 1 ≤ lo)
    (hids : (q.map (·.ident)).Nodup) (hf : FiringFits base lo cap c e) {y m : Entry} {others : List Entry}
    (ht : q.filter (Entry.touches gap c e) = y :: others) (hm : Joins base c e (y :: others) y m)
    (hcap : spanOf m.start m.stop ≤ cap) : QueueOrdered base gap lo cap (absorb m others q) := by
  have hy : y ∈ q ∧ y.touches gap c e = true := List.mem_filter.1 (ht ▸ List.mem_cons_self)
  obtain ⟨hy1, hy2, -, hy3⟩ := hq.1 y hy.1
  have hself : ∀ a ∈ q, a.ident = y.ident → a = y := fun a ha he => List.inj_on_of_nodup_map hids ha hy.1 he
  have hkept : ∀ a, a ∈ (q.filter fun x => !(others.any fun o => o.ident == x.ident)) →
      a ∈ q ∧ (a.ident ≠ m.ident → a.touches gap c e ≠ true) := by
    intro a ha
    obtain ⟨haq, hother⟩ := List.mem_filter.1 ha
    refine ⟨haq, fun hne htouch => ?_⟩
    have hmem : a ∈ y :: others := ht ▸ List.mem_filter.2 ⟨haq, htouch⟩
    rcases List.mem_cons.1 hmem with rfl | hmem
    · exact hne hm.ident.symm
    · simp only [Bool.not_eq_true', List.any_eq_false, beq_iff_eq] at hother
      exact hother a hmem rfl
  have hapart := fun a (ha : a ∈ q) htouch => apart_of_joins hq hgap hlo hf (ht.symm ▸ hm) ha htouch
  refine ⟨fun x hx => ?_, List.pairwise_map.2 ?_⟩
  · obtain ⟨a, ha, rfl⟩ := List.mem_map.1 hx
    split
    · have hstart := hm.start
      have hstop := hm.stop
      rw [spanOf_eq_offset (base := base) (by omega)] at hcap
      obtain ⟨hf1, hf2, -, hf3⟩ := id hf
      have htouched : ∀ x ∈ y :: others, FiringFits base lo cap x.start x.stop := fun x hx =>
        hq.1 x (List.mem_filter.1 (ht ▸ hx)).1
      have hlow := hm.after 5000 hf1 fun x hx => (htouched x hx).1
      have hhigh := hm.till 1073741823 (by omega) fun x hx => by
        obtain ⟨-, -, -, hx3⟩ := htouched x hx
        omega
      exact ⟨hlow, by omega, by omega, by omega⟩
    · exact hq.1 a (hkept a ha).1
  · have hne : q.Pairwise fun a b => a.ident ≠ b.ident := List.pairwise_map.1 hids
    refine List.Pairwise.imp_of_mem (fun {a b} ha hb hab => ?_) ((hq.2.and hne).filter _)
    obtain ⟨haq, hat⟩ := hkept a ha
    obtain ⟨hbq, hbt⟩ := hkept b hb
    obtain ⟨horder, hdistinct⟩ := hab
    have hstart := hm.start
    have hstop := hm.stop
    obtain ⟨ha1, ha2, -, ha3⟩ := hq.1 a haq
    obtain ⟨hb1, hb2, -, hb3⟩ := hq.1 b hbq
    by_cases hay : a.ident = m.ident
    · have hby : b.ident ≠ m.ident := fun he => hdistinct (hay.trans he.symm)
      obtain rfl := hself a haq (hay.trans hm.ident)
      rw [if_pos hay, if_neg hby]
      have := hapart b hbq (hbt hby)
      unfold Apart at this
      omega
    · rw [if_neg hay]
      split
      · obtain rfl := hself b hbq (‹b.ident = m.ident›.trans hm.ident)
        have := hapart a haq (hat hay)
        unfold Apart at this
        omega
      · exact horder

end

/-- All that an offer can do to its queue: nothing, a new entry among entries it does not touch, or a merge whose width
stays within WIDTH CAP. -/
theorem offer_queue_cases (s : State) (g : Nat) (c e : Time) (prio : Nat) (o : Origin) :
    (offer g c e prio o s).1 = s ∨
    (touchedEntries s g c e = [] ∧ (s.queue g).length < 8 ∧
      (offer g c e prio o s).1.queue g = insertEntry (newEntry s c e prio o) (s.queue g)) ∨
    ∃ y others, touchedEntries s g c e = y :: others ∧
      spanOf (mergeEntry y others c e prio).start (mergeEntry y others c e prio).stop ≤ s.settings.widthCap ∧
      (offer g c e prio o s).1.queue g = absorb (mergeEntry y others c e prio) others (s.queue g) := by
  by_cases hin : (s.nozzle g).state = .inService
  · cases ht : touchedEntries s g c e with
    | nil =>
      rw [offer_of_untouched prio o hin ht]
      split
      · exact .inr (.inl ⟨rfl, ‹_›, Tab.get_set_same _ _ _ _⟩)
      · exact .inl rfl
    | cons y others =>
      by_cases hr : MergeRefused s y others (mergeEntry y others c e prio)
      · exact .inl (by rw [offer_of_refused o hin ht hr])
      · refine .inr (.inr ⟨y, others, rfl, Nat.not_lt.1 fun hwide => hr (.inr (.inr hwide)), ?_⟩)
        rw [offer_of_merged o hin ht hr]
        exact Tab.get_set_same _ _ _ _
  · exact .inl (by rw [offer_of_out prio o hin])

/-- Settles O18: what the offer does to the queue, case by case, in distances from the base of the span. -/
theorem offerKeepsTheQueueOrdered : Obligations.OfferKeepsTheQueueOrdered := by
  intro s t g prio lo base c e o answer gap hgap hlo hlen hids hq hf hoffer
  obtain rfl : (offer g c e prio o s).1 = t := congrArg Prod.fst hoffer
  obtain hsame | ⟨ht, hroom, hqueue⟩ | ⟨y, others, ht, hcap, hqueue⟩ := offer_queue_cases s g c e prio o
  · rw [hsame]
    exact ⟨hq, hlen⟩
  · rw [hqueue, length_insertEntry]
    exact ⟨hq.insertEntry hgap hlo hf fun y hy => List.filter_eq_nil_iff.1 ht y hy, hroom⟩
  · have hfits : ∀ x ∈ y :: others, FiringFits base lo s.settings.widthCap x.start x.stop := fun x hx =>
      hq.1 x (List.mem_filter.1 (ht ▸ hx)).1
    rw [hqueue]
    exact ⟨hq.absorb hgap hlo hids hf ht (mergeEntry_joins prio hf hfits) hcap,
      (length_absorb_le _ _ _).trans hlen⟩

end Sys2Proof.Machine
end

section
/-! Starts of entries and the air budget (O20, O21): R63, R72, R73, R95, R97 to R99, R105, R108, R114, R115. -/

namespace Sys2Proof.Machine

/-! ### What a start makes of its entry -/

/-- An entry that is admitted: OPEN at once while the part goes dry or is dry, OPENING with an OPEN asked for while it is
wet (R97, R108). -/
def Entry.admitted (dry : Bool) (e : Entry) : Entry :=
  if dry then { e with phase := .opened, firing := some ⟨.dry, .none, .none⟩ }
  else { e with phase := .opening, firing := some ⟨.wet, .waiting, .none⟩ }

section
variable {s : State} {g : Nat} {x : Entry}

theorem admitEntry_eq (s : State) (g : Nat) (x : Entry) : admitEntry g x s =
    { s with
      firing := { s.firing with
        queues := Tab.set [] s.firing.queues g
          ((s.queue g).map fun e => if e.ident = x.ident then e.admitted (s.ctl.goingDry || s.ctl.dry) else e)
        openCount := s.firing.openCount.set (chuteOf g) (s.openCount (chuteOf g) + 1) }
      bus := if s.ctl.goingDry || s.ctl.dry then s.bus
        else s.bus.set (chuteOf g) { s.busOf (chuteOf g) with
          requests := (s.busOf (chuteOf g)).requests ++ [⟨true, g, x.ident, x.start⟩] }
      tally := if s.ctl.goingDry || s.ctl.dry then s.tally.countChute (chuteOf g) .dryFirings 1 else s.tally } := by
  unfold admitEntry startKind
  cases s.ctl.goingDry || s.ctl.dry <;> rfl

/-- An OPEN or OPENING entry that is dry leaves its queue before its time (R105). -/
theorem closeEarly_of_dry (hk : x.kind = .dry) : closeEarly g x s = { s with firing := { s.firing with
    queues := Tab.set [] s.firing.queues g ((s.queue g).filter fun e => e.ident != x.ident)
    openCount := s.firing.openCount.set (chuteOf g) (s.openCount (chuteOf g) - 1) } } := by
  simp only [closeEarly, hk]
  rfl

/-- A wet one becomes CLOSING with a CLOSE due now, its waiting OPEN withdrawn (R105). -/
theorem closeEarly_of_wet (hk : x.kind = .wet) : closeEarly g x s =
    let h := chuteOf g
    let openReq := (x.firing.map (·.openReq)).getD .none
    { s with
      firing := { s.firing with
        queues := Tab.set [] s.firing.queues g ((s.queue g).map fun e =>
          if e.ident = x.ident then { e with
            phase := .closing
            firing := some ⟨.wet, if openReq = .waiting then .none else openReq, .waiting⟩ }
          else e)
        openCount := s.firing.openCount.set h (s.openCount h - 1) }
      bus := s.bus.set h { s.busOf h with
        requests := (if openReq = .waiting then (s.busOf h).requests.filter fun q =>
            !(q.isOpen && q.nozzle == g && q.ident == x.ident)
          else (s.busOf h).requests) ++ [⟨false, g, x.ident, s.clk.now⟩] } } := by
  simp only [closeEarly, hk]
  split
  · simp [handRequest, withdrawOpen, updateEntry, State.setBus, State.busOf, State.setQueue, State.setOpenCount,
      State.queue, State.openCount]
  · rfl

/-! ### The judgement of a start -/

theorem exec_entryStart (hs : Awake s) (hx : startingEntry s g = some x) :
    exec (.entryStart g) s = .next (conclude (grantNext (chuteOf g) (judgeStart g x s))) := by
  refine (live_awake s hs).trans ?_
  rw [entryStart, hx]

/-- The first WAITING entry whose start has come is the one that starts (R63, R97). -/
theorem startingEntry_eq {earlier later : List Entry} (hq : s.queue g = earlier ++ x :: later)
    (hearlier : ∀ y ∈ earlier, ¬(y.phase = .waiting ∧ due y.start s.clk.now = true)) (hw : x.phase = .waiting)
    (hdue : due x.start s.clk.now = true) : startingEntry s g = some x :=
  find_entry hq (fun y hy => by simpa using hearlier y hy) (by simp [hw, hdue])

theorem judgeStart_of_below (h : s.openCount (chuteOf g) < airNow s (chuteOf g)) :
    judgeStart g x s = admitEntry g x s := if_pos h

theorem judgeStart_of_above (h : airNow s (chuteOf g) < s.openCount (chuteOf g)) :
    judgeStart g x s = starveEntry g x s :=
  (if_neg (Nat.lt_asymm h)).trans (if_neg (Nat.ne_of_gt h))

/-- At the cap the holder to cut decides by its priority (R98). -/
theorem judgeStart_of_at {v : Nat × Entry} (h : s.openCount (chuteOf g) = airNow s (chuteOf g))
    (hv : victim (holders s (chuteOf g)) = some v) : judgeStart g x s =
      if v.2.prio < x.prio then admitEntry g x (closeEarly v.1 v.2 (countChute (chuteOf g) .cut s))
      else starveEntry g x s := by
  have hat : judgeStart g x s = arbitrate g x s := (if_neg (Nat.not_lt.2 h.ge)).trans (if_pos h)
  rw [hat, arbitrate, hv]

/-- A start that is starved leaves its queue (R72). -/
theorem starveEntry_eq {earlier later : List Entry} (hq : s.queue g = earlier ++ x :: later)
    (hids : ((s.queue g).map (·.ident)).Nodup) : starveEntry g x s = { s with
      firing := { s.firing with queues := Tab.set [] s.firing.queues g (earlier ++ later) }
      tally := s.tally.countChute (chuteOf g) .starved 1 } := by
  rw [hq] at hids
  unfold starveEntry removeEntry
  rw [hq, filter_ident hids]
  rfl

end

/-- Settles O20: below the cap the judgement is the admission. -/
theorem startBelowTheCapIsAdmitted : Obligations.StartBelowTheCapIsAdmitted := by
  refine ⟨fun s g earlier later x hs hq hids hearlier hw hdue hair => ?_, fun s g hs hnone => ?_⟩
  · rw [exec_entryStart hs (startingEntry_eq hq hearlier hw hdue), judgeStart_of_below hair, admitEntry_eq, hq,
      map_ident _ (hq ▸ hids)]
    rfl
  · have hstart : startingEntry s g = none := List.find?_eq_none.2 fun e he => by simpa using hnone e he
    refine (live_awake s hs).trans ?_
    rw [entryStart, hstart]

/-! ### The holder that is cut (R98) -/

theorem cutBefore_iff (a b : Nat × Entry) : cutBefore a b = true ↔ a.2.prio < b.2.prio ∨
    (a.2.prio = b.2.prio ∧ (before b.2.stop a.2.stop = true ∨ (b.2.stop = a.2.stop ∧ a.1 < b.1))) := by
  simp only [cutBefore, Bool.or_eq_true, Bool.and_eq_true, decide_eq_true_eq, beq_iff_eq, eq_comm (a := a.2.stop)]

theorem cutBefore_irrefl (a : Nat × Entry) : cutBefore a a = false := by
  rw [Bool.eq_false_iff, ne_eq, cutBefore_iff]
  simp [before_irrefl]

theorem cutBefore_asymm {a b : Nat × Entry} (h : cutBefore a b = true) : cutBefore b a = false := by
  rw [Bool.eq_false_iff, ne_eq, cutBefore_iff]
  rw [cutBefore_iff] at h
  rintro (hlt | ⟨heq, hlater | ⟨hstop, hlow⟩⟩)
  · omega
  · obtain hlt | ⟨-, h | ⟨h, -⟩⟩ := h
    · omega
    · rw [before_asymm h] at hlater
      cases hlater
    · rw [h, before_irrefl] at hlater
      cases hlater
  · obtain hlt | ⟨-, h | ⟨-, h⟩⟩ := h
    · omega
    · rw [hstop, before_irrefl] at h
      cases h
    · omega

/-- The victim is the holder of the lowest priority, then of the latest end, then of the lowest nozzle (R98). -/
theorem victim_of_least {l : List (Nat × Entry)} {gv : Nat} {v : Entry} (hv : (gv, v) ∈ l)
    (h : ∀ w ∈ l, w ≠ (gv, v) → v.prio < w.2.prio ∨
      (v.prio = w.2.prio ∧ (before w.2.stop v.stop = true ∨ (w.2.stop = v.stop ∧ gv < w.1)))) :
    victim l = some (gv, v) := by
  have hcut : ∀ w ∈ l, w ≠ (gv, v) → cutBefore (gv, v) w = true := fun w hw hne => (cutBefore_iff _ _).2 (h w hw hne)
  refine victim_eq hv hcut fun w hw => ?_
  by_cases hne : w = (gv, v)
  · rw [hne]
    exact cutBefore_irrefl _
  · exact cutBefore_asymm (hcut w hw hne)

/-- The holders of a chute's air are entries of its nozzles. -/
theorem chuteOf_of_mem_holders {s : State} {h : Chute} {v : Nat × Entry} (hv : v ∈ holders s h) : chuteOf v.1 = h := by
  obtain ⟨p, -, hp⟩ := List.mem_flatMap.1 hv
  split at hp
  · obtain ⟨e, -, rfl⟩ := List.mem_map.1 hp
    assumption
  · cases hp

/-- Settles O21: above the cap the start is starved, at the cap the victim's priority decides. -/
theorem startAtTheCapCutsOrStarves : Obligations.StartAtTheCapCutsOrStarves := by
  intro s g earlier later x hs hq hids hearlier hw hdue h starved
  have hexec := exec_entryStart hs (startingEntry_eq hq hearlier hw hdue)
  have hstarved : exec (.entryStart g) s = .next (conclude (grantNext h (starveEntry g x s))) →
      exec (.entryStart g) s = .next starved := fun he => by rw [he, starveEntry_eq hq hids]
  refine ⟨fun habove => hstarved (by rw [hexec, judgeStart_of_above habove]), fun hat gv v hv hleast => ?_⟩
  have hjudge := judgeStart_of_at (x := x) hat (victim_of_least hv hleast)
  refine ⟨fun hprio => hstarved (by rw [hexec, hjudge, if_neg (Nat.not_lt.2 hprio)]), ?_⟩
  intro hprio openReq cut dry
  have hgv : chuteOf gv = h := chuteOf_of_mem_holders hv
  have hcut : closeEarly gv v (countChute h .cut s) = cut := by
    simp only [cut, openReq]
    split
    · rw [closeEarly_of_dry ‹_›, hgv]
      rfl
    · rw [closeEarly_of_wet ‹_›, hgv]
      rfl
  have hdry : (cut.ctl.goingDry || cut.ctl.dry) = dry := by
    rw [← hcut, closeEarly_frame]
    rfl
  rw [hexec, hjudge, if_pos hprio]
  simp only
  rw [hcut, admitEntry_eq, hdry]
  rfl

end Sys2Proof.Machine
end

section
/-! Work given up: the expiry of the WIND-DOWN LIMIT (O31) and GO STANDBY (O43): R76, R77, R91, R105, R151, R152, R159,
R160, R164. -/

namespace Sys2Proof.Machine

/-! ### What the expiry leaves of the queues (R77, R105) -/

/-- What a canonical table of lists gives, one list after another, when only what belongs to one index is kept. -/
theorem filter_flatMap_owner {α β : Type} [DecidableEq α] {d : α} {t : Tab α} (h : Tab.wf d t = true)
    {f : Nat → α → List β} {owner : β → Nat} (howner : ∀ k a, ∀ b ∈ f k a, owner b = k) {i : Nat} (hd : f i d = []) :
    ((t.flatMap fun p => f p.1 p.2).filter fun b => owner b == i) = f i (Tab.get d t i) := by
  obtain ⟨hrise, -⟩ := (Tab.wf_iff d t).1 h
  clear h
  induction t with
  | nil => simp [hd]
  | cons p t ih =>
    obtain ⟨k, v⟩ := p
    obtain ⟨hbelow, hrise⟩ := List.pairwise_cons.1 hrise
    rw [List.flatMap_cons, List.filter_append, ih hrise, Tab.get_cons]
    by_cases hk : k = i
    · subst hk
      rw [if_pos rfl, Tab.get_of_below d t hbelow, hd, List.append_nil]
      exact List.filter_eq_self.2 fun b hb => by simpa using howner k v b hb
    · rw [if_neg hk, List.filter_eq_nil_iff.2 fun b hb => by simpa using howner k v b hb ▸ hk, List.nil_append]

/-- Of a nozzle's entries the expiry keeps those CLOSING, and a wet one that holds air becomes CLOSING (R77, R105). -/
theorem reduceEntry_eq (e : Entry) : reduceEntry e =
    match e.phase with
    | .waiting => none
    | .closing => some e
    | _ =>
      if e.kind = .dry then none
      else some { e with
        phase := .closing
        firing := some ⟨.wet,
          if (e.firing.map (·.openReq)) = some .waiting then .none else (e.firing.map (·.openReq)).getD .none,
          .waiting⟩ } := by
  have hwaiting : (e.firing.map (·.openReq)).getD .none = .waiting ↔ e.firing.map (·.openReq) = some .waiting := by
    cases e.firing <;> simp
  unfold reduceEntry
  simp only [hwaiting]
  cases e.phase with
  | waiting => rfl
  | closing => rfl
  | opening => cases e.kind <;> rfl
  | opened => cases e.kind <;> rfl

theorem queue_reduceQueues {s : State} (h : Tab.wf [] s.firing.queues = true) (g : Nat) :
    (reduceQueues s).queue g = (s.queue g).filterMap reduceEntry :=
  Tab.get_mapListed h (fun _ q => q.filterMap reduceEntry) g rfl

/-- The CLOSEs handed over are those of the chute's own nozzles (R105). -/
theorem chuteOf_of_mem_reduceRequests {s : State} {h : Chute} {r : Request} (hr : r ∈ reduceRequests s h) :
    chuteOf r.nozzle = h := by
  obtain ⟨p, -, hp⟩ := List.mem_flatMap.1 hr
  split at hp
  · obtain ⟨e, -, rfl⟩ := List.mem_map.1 hp
    assumption
  · cases hp

/-- Those of one nozzle are those of its wet entries that hold air, in the order of its queue (notes/assumptions/33). -/
theorem reduceRequests_of_nozzle {s : State} (hwf : Tab.wf [] s.firing.queues = true) {g : Nat} {h : Chute}
    (hg : chuteOf g = h) : (reduceRequests s h).filter (fun r => r.nozzle == g) =
      ((s.queue g).filter fun e => e.holdsAir && e.kind == .wet).map fun e => ⟨false, g, e.ident, s.clk.now⟩ := by
  let requests : Nat → List Entry → List Request := fun k q =>
    if chuteOf k = h then
      (q.filter fun e => e.holdsAir && e.kind == .wet).map fun e => ⟨false, k, e.ident, s.clk.now⟩
    else []
  have howner : ∀ k q, ∀ r ∈ requests k q, r.nozzle = k := by
    intro k q r hr
    simp only [requests] at hr
    split at hr
    · obtain ⟨e, -, rfl⟩ := List.mem_map.1 hr
      rfl
    · cases hr
  refine (filter_flatMap_owner hwf howner (i := g) (by simp [requests])).trans ?_
  exact if_pos hg

/-! ### The expiry of the WIND-DOWN LIMIT -/

/-- The part when the expiry has given up its work, before the grants (R160). -/
def windDownReduced (w : WindDown) (s : State) : State :=
  { reduceQueues (emptyHeld (emptyIntake (abandonPlanning s))) with
    ctl := { s.ctl with windDown := some { w with phase := .closingOut } } }

theorem windDownExpiry_eq (w : WindDown) (s : State) :
    windDownExpiry w s = conclude (grantAll (windDownReduced w s)) := by
  unfold windDownExpiry windDownReduced
  rw [giveUpPending_eq]
  rfl

theorem windDownReduced_eq (w : WindDown) (s : State) : windDownReduced w s = { s with
    ctl := { s.ctl with windDown := some { w with phase := .closingOut } }
    planner := none
    port := { s.port with intake := [], hold := false }
    verdicts := { s.verdicts with held := [] }
    banks := releasedBanks s
    firing := (reduceQueues s).firing
    bus := (reduceQueues s).bus
    tally := { abandonedTally s s.tally with
      chutes := (abandonedTally s s.tally).chutes.map fun h r =>
        r.add .firingsAbandoned (countEntries s h fun e => e.phase != .closing) } } := by
  unfold windDownReduced
  rw [giveUpPending_eq]
  rfl

theorem exec_windDownLimitExpiry {s : State} (hs : Awake s) :
    exec .windDownLimitExpiry s = .next (windDownLimitExpiry s) := live_awake s hs

/-- Settles O31: the expiry's own equation, with what it leaves of each queue and hands to each bus. -/
theorem windDownLimitReducesTheQueues : Obligations.WindDownLimitReducesTheQueues := by
  refine ⟨fun s hs hw => ?_, fun s w hs hw => ⟨fun hnot => ?_, fun hphase hdue hwf => ?_⟩⟩
  · rw [exec_windDownLimitExpiry hs, windDownLimitExpiry, hw]
  · rw [exec_windDownLimitExpiry hs, windDownLimitExpiry, hw]
    exact congrArg _ (if_neg hnot)
  · refine ⟨windDownReduced w s, ?_, ?_⟩
    · rw [exec_windDownLimitExpiry hs, windDownLimitExpiry, hw]
      refine congrArg _ ((if_pos ⟨hphase, hdue⟩).trans ?_)
      rw [windDownExpiry_eq]
      rfl
    · rw [windDownReduced_eq]
      refine ⟨rfl, rfl, rfl, rfl, rfl, fun g => ?_, fun h => ⟨reduceRequests s h, ?_,
        fun r => chuteOf_of_mem_reduceRequests, fun g => reduceRequests_of_nozzle hwf⟩, fun h => ?_,
        fun hc h k hk => abandonedTally_sighting hc _ h hk, rfl, rfl, rfl⟩
      · exact (queue_reduceQueues hwf g).trans (congrArg (List.filterMap · (s.queue g)) (funext reduceEntry_eq))
      · exact PerChute.get_map _ _ h
      · simp only [abandonedTally_chutes, PerChute.get_map]

/-! ### GO STANDBY -/

/-- The WAITING entries of one origin (R76). -/
def Entry.waitsFor (o : Origin) (e : Entry) : Bool := e.phase == .waiting && e.origin == o

theorem queue_abandonOrigin {s : State} (h : Tab.wf [] s.firing.queues = true) (o : Origin) (g : Nat) :
    (abandonOrigin o s).queue g = (s.queue g).filter fun e => !e.waitsFor o :=
  Tab.get_mapListed h (fun _ q => q.filter fun e => !e.waitsFor o) g rfl

theorem standbyFromRun_eq (s : State) : standbyFromRun s = { s with
    ctl := { s.ctl with op := .standby }
    link := { s.link with window := if s.ctl.op = .standby then s.link.window else none }
    planner := none
    port := { s.port with intake := [], hold := false }
    verdicts := ⟨[], PerChute.const []⟩
    banks := releasedBanks s
    firing := (abandonOrigin .sighting s).firing
    tally := { abandonedTally s s.tally with
      chutes := (abandonedTally s s.tally).chutes.map fun h r =>
        r.add .firingsAbandoned (countEntries s h (Entry.waitsFor .sighting)) } } := by
  unfold standbyFromRun
  rw [giveUpPending_eq, enterState_eq]
  rfl

theorem standbyFromPurge_eq (s : State) : standbyFromPurge s = { s with
    ctl := { s.ctl with op := .standby, purge := none }
    link := { s.link with window := if s.ctl.op = .standby then s.link.window else none }
    firing := (abandonOrigin .purge s).firing
    tally := { s.tally with
      chutes := s.tally.chutes.map fun h r =>
        r.add .firingsAbandoned (countEntries s h (Entry.waitsFor .purge)) } } := by
  unfold standbyFromPurge
  rw [enterState_eq]
  rfl

/-- A state entered with the window closed already (R30). -/
theorem enterState_closeWindow (op : OpState) (s : State) : enterState op (closeWindow s) = { s with
    ctl := { s.ctl with op := op }, link := { s.link with window := none } } := by
  rw [enterState_eq]
  exact congrArg (fun w => { s with ctl := { s.ctl with op := op }, link := { s.link with window := w } })
    (ite_self none)

/-- A GO STANDBY that is heard is judged by the operating state (R151, R152). -/
theorem exec_goStandby {s : State} {addr : Byte} (h : Heard s addr) : exec (.goStandby addr []) s = .next
    (match s.ctl.op with
    | .standby => replied 0x05 .done [] (closeWindow s)
    | .run => replied 0x05 .done [] (standbyFromRun (closeWindow s))
    | .purge => replied 0x05 .done [] (standbyFromPurge (closeWindow s))
    | .halt =>
      if s.ctl.estop then replied 0x05 .notNow [] s
      else replied 0x05 .done [] (enterState .standby (closeWindow s))
    | .windDown => replied 0x05 .notNow [] s) := by
  obtain ⟨-, hdue, -⟩ := id h
  refine (hostCommand_heard s 0x05 false _ h (by simp)).trans (congrArg _ ?_)
  unfold cmdGoStandby
  simp only [takeOwedReset_of_not_due s hdue]
  cases s.ctl.op with
  | standby | run | purge | windDown => rfl
  | halt => cases s.ctl.estop <;> rfl

/-- Settles O43: the command by operating state, and what it gives up by the equations of leaving RUN and PURGE. -/
theorem goStandbyGivesUpTheWork : Obligations.GoStandbyGivesUpTheWork := by
  intro s addr h hwf
  have hexec := exec_goStandby h
  refine ⟨fun hop => ?_, fun hop => ?_, fun hop he => ?_, fun hop => ?_, fun hop => ?_⟩
  · rw [hexec, hop]
    rfl
  · obtain hop | ⟨hop, he⟩ := hop
    · rw [hexec, hop]
    · rw [hexec, hop, he]
      rfl
  · rw [hexec, hop, he, enterState_closeWindow]
    rfl
  · refine ⟨_, hexec.trans (by rw [hop]), ?_⟩
    rw [standbyFromRun_eq]
    refine ⟨rfl, ?_, rfl, rfl, rfl, queue_abandonOrigin (s := closeWindow s) hwf .sighting, fun h => ?_,
      fun hc h k hk => abandonedTally_sighting (s := closeWindow s) hc _ h hk, rfl, rfl⟩
    · exact congrArg (fun w => { s.link with window := w }) (ite_self _)
    · simp only [abandonedTally_chutes, PerChute.get_map]
      rfl
  · refine ⟨_, hexec.trans (by rw [hop]), ?_⟩
    rw [standbyFromPurge_eq]
    refine ⟨rfl, ?_, queue_abandonOrigin (s := closeWindow s) hwf .purge, fun h => ?_, rfl⟩
    · exact congrArg (fun w => { s.link with window := w }) (ite_self _)
    · exact PerChute.get_map _ _ h

end Sys2Proof.Machine
end

section
/-! NOZZLE READ and NOZZLE WRITE (O47): R64, R74, R135, R137 to R140, R155, R185, R186. -/

namespace Sys2Proof.Machine

/-! ### The fields of a NOZZLE WRITE (12.4) -/

theorem takeByte_present (o : Option Byte) (l : List Byte) : takeByte o.isSome (o.toList ++ l) = some (o, l) := by
  cases o with
  | some b => rfl
  | none => cases l <;> rfl

/-- The bytes of a field of two bytes, if it is there. -/
def twoBytes (o : Option (Byte × Byte)) : List Byte := o.toList.flatMap fun x => [x.1, x.2]

/-- The bytes of a field of four bytes, if it is there. -/
def fourBytes (o : Option (Byte × Byte × Byte × Byte)) : List Byte :=
  o.toList.flatMap fun x => [x.1, x.2.1, x.2.2.1, x.2.2.2]

theorem takeTwo_present (o : Option (Byte × Byte)) (l : List Byte) :
    takeTwo o.isSome (twoBytes o ++ l) = some (o, l) := by
  cases o with
  | some b => rfl
  | none => match l with
    | [] | [_] | _ :: _ :: _ => rfl

theorem takeFour_present (o : Option (Byte × Byte × Byte × Byte)) (l : List Byte) :
    takeFour o.isSome (fourBytes o ++ l) = some (o.map fun x => num32 x.1 x.2.1 x.2.2.1 x.2.2.2, l) := by
  cases o with
  | some b => rfl
  | none => match l with
    | [] | [_] | [_, _] | [_, _, _] | _ :: _ :: _ :: _ :: _ => rfl

section
variable {presence : Byte} {state : Option Byte} {off lat : Option (Byte × Byte)}
  {wear : Option (Byte × Byte × Byte × Byte)}

/-- What the fields of a NOZZLE WRITE say. -/
def fieldsOf (state : Option Byte) (off lat : Option (Byte × Byte)) (wear : Option (Byte × Byte × Byte × Byte)) :
    NozzleFields :=
  ⟨state, off.map fun x => signed16 x.1 x.2, lat.map fun x => num16 x.1 x.2,
    wear.map fun x => num32 x.1 x.2.1 x.2.2.1 x.2.2.2⟩

/-- The fields are read in their order, those that the presence byte names (R137, R186). -/
theorem readFields_present (h0 : presence.getLsbD 0 = state.isSome) (h1 : presence.getLsbD 1 = off.isSome)
    (h2 : presence.getLsbD 2 = lat.isSome) (h3 : presence.getLsbD 3 = wear.isSome) :
    readFields presence (state.toList ++ twoBytes off ++ twoBytes lat ++ fourBytes wear)
      = some (fieldsOf state off lat wear) := by
  have hlast := takeFour_present wear []
  rw [List.append_nil] at hlast
  simp only [readFields, h0, h1, h2, h3, List.append_assoc, takeByte_present, takeTwo_present, hlast,
    Option.bind_eq_bind, Option.bind_some, List.isEmpty_nil, if_true, fieldsOf]

theorem length_fields_le :
    (state.toList ++ twoBytes off ++ twoBytes lat ++ fourBytes wear).length ≤ 9 := by
  cases state <;> cases off <;> cases lat <;> cases wear <;> simp [twoBytes, fourBytes]

/-- The record as the present fields write it, each clamped to its range (R137 to R140). -/
def writtenRecord (state : Option Byte) (off lat : Option (Byte × Byte)) (wear : Option (Byte × Byte × Byte × Byte))
    (r : NozzleRecord) : NozzleRecord :=
  { r with
    state := match state with
      | some code => if code = 1 then .masked else .inService
      | none => r.state
    misses := if state = some 0 ∧ r.state = .masked then 0 else r.misses
    cause := if state = some 0 ∧ r.state = .masked then .none else r.cause
    offset := (off.map fun x => max (-255) (min 255 (signed16 x.1 x.2))).getD r.offset
    latency := (lat.map fun x => min 4095 (num16 x.1 x.2)).getD r.latency
    wear := (wear.map fun x => num32 x.1 x.2.1 x.2.2.1 x.2.2.2).getD r.wear }

theorem apply_fieldsOf {r : NozzleRecord} (hcode : ∀ code ∈ state, code = 0 ∨ code = 1)
    (hfailed : ¬(state = some 0 ∧ r.state = .failed)) :
    (fieldsOf state off lat wear).apply r = writtenRecord state off lat wear r := by
  have hoffset : ∀ o, clampOffset o = max (-255) (min 255 o) := clampInt_eq (by decide)
  have hlatency : ∀ v, clampLatency v = min 4095 v := fun v => (clampNat_eq (by decide) v).trans (Nat.zero_max _)
  unfold writtenRecord NozzleFields.apply fieldsOf
  simp only [Option.map_map, Function.comp_def, hoffset, hlatency]
  cases state with
  | none => simp
  | some code =>
    rcases hcode code rfl with rfl | rfl
    · cases hr : r.state with
      | failed => exact absurd ⟨rfl, hr⟩ hfailed
      | masked => simp [NozzleRecord.writeState, hr]
      | inService => simp [NozzleRecord.writeState, hr]
    · simp [NozzleRecord.writeState]

/-- A nozzle in service leaves it where its state is written to MASKED (R74, R138). -/
theorem writtenRecord_masked {r : NozzleRecord} (hin : r.state = .inService) :
    (writtenRecord state off lat wear r).state = .masked ↔ state = some 1 := by
  cases state with
  | none => simp [writtenRecord, hin]
  | some code => by_cases hcode : code = 1 <;> simp [writtenRecord, hcode]

/-- A field is clamped where it lies outside its range (R137, R169). -/
theorem replaced_fieldsOf : (fieldsOf state off lat wear).replaced = true ↔
    ¬((∀ x ∈ off, -255 ≤ signed16 x.1 x.2 ∧ signed16 x.1 x.2 ≤ 255) ∧ ∀ x ∈ lat, num16 x.1 x.2 ≤ 4095) := by
  have hoffset : ∀ o, clampOffset o ≠ o ↔ ¬(-255 ≤ o ∧ o ≤ 255) := fun o => by
    have : clampOffset o = max (-255) (min 255 o) := clampInt_eq (by decide) o
    omega
  have hlatency : ∀ v, clampLatency v ≠ v ↔ ¬v ≤ 4095 := fun v => by
    have : clampLatency v = max 0 (min 4095 v) := clampNat_eq (by decide) v
    omega
  unfold NozzleFields.replaced fieldsOf
  rw [not_and_or, Bool.or_eq_true]
  refine or_congr ?_ ?_
  · cases off with
    | none => simp
    | some x => simpa using hoffset (signed16 x.1 x.2)
  · cases lat with
    | none => simp
    | some x => simpa using hlatency (num16 x.1 x.2)

end

/-! ### The commands -/

theorem clampedIf_eq {b : Bool} {kept : Prop} [Decidable kept] (h : b = true ↔ ¬kept) :
    clampedIf b = if kept then .done else .clamped :=
  (if_congr h rfl rfl).trans (ite_not kept _ _)

theorem nozzleIdOk_iff (g : Byte) : nozzleIdOk g = true ↔ g.toNat < 160 := decide_eq_true_iff

theorem exec_nozzleRead {s : State} {addr : Byte} (g : Byte) (h : Heard s addr) :
    exec (.nozzleRead addr [g]) s = .next
      (if g.toNat < 160 then replied 0x0E .done (nozzleReport g.toNat s) (closeWindow s)
      else replied 0x0E .outOfRange [] s) := by
  refine (hostCommand_heard s 0x0E true _ h (by simp)).trans (congrArg _ ?_)
  simp only [cmdNozzleRead, nozzleIdOk_iff]
  split <;> rfl

/-- Outside a wind-down what is concluded leaves the nozzle records and the queues alone. -/
theorem nozzleReport_conclude {s : State} (h : s.ctl.op ≠ .windDown) (g : Nat) :
    nozzleReport g (conclude s) = nozzleReport g s := by
  rw [conclude_frame s h]
  rfl

/-- A NOZZLE WRITE that is heard, its fields read: its checks in order, then the write (R137, R186). -/
theorem exec_nozzleWrite {s : State} {addr g presence : Byte} {l : List Byte} {f : NozzleFields} (h : Heard s addr)
    (hl : l.length ≤ 9) (hf : readFields presence l = some f) :
    exec (.nozzleWrite addr (g :: presence :: l)) s = .next
      (if 160 ≤ g.toNat ∨ ∃ code ∈ f.state, code ≠ 0 ∧ code ≠ 1 then replied 0x0F .outOfRange [] s
      else if s.ctl.op = .windDown ∨ (s.ctl.op = .halt ∧ (f.offset ≠ none ∨ f.latency ≠ none)) then
        replied 0x0F .notNow [] s
      else if f.state = some 0 ∧ (s.nozzle g.toNat).state = .failed then replied 0x0F .notNow [] s
      else replied 0x0F (clampedIf f.replaced) (nozzleReport g.toNat (writeNozzle g.toNat f s))
        (writeNozzle g.toNat f s)) := by
  refine (hostCommand_heard s 0x0F false _ h (by simp; omega)).trans (congrArg _ ?_)
  have hok : ((!nozzleIdOk g) = true) ↔ 160 ≤ g.toNat := by
    rw [Bool.not_eq_true', ← Bool.not_eq_true, nozzleIdOk_iff, Nat.not_lt]
  simp only [cmdNozzleWrite, hf, hok, Option.isSome_iff_ne_none]
  by_cases hrange : 160 ≤ g.toNat ∨ ∃ code ∈ f.state, code ≠ 0 ∧ code ≠ 1
  · rw [if_pos hrange, if_pos hrange]
    rfl
  rw [if_neg hrange, if_neg hrange]
  by_cases hwind : s.ctl.op = .windDown
  · rw [if_pos hwind, if_pos (.inl hwind)]
    rfl
  rw [if_neg hwind]
  by_cases hhalt : s.ctl.op = .halt ∧ (f.offset ≠ none ∨ f.latency ≠ none)
  · rw [if_pos hhalt, if_pos (.inr hhalt)]
    rfl
  rw [if_neg hhalt, if_neg (not_or.2 ⟨hwind, hhalt⟩)]
  split <;> rfl

/-- The part with a nozzle's record written and the window closed, a nozzle that leaves service without its WAITING
entries, which are counted (R74, R137). -/
def nozzleWritten (g : Nat) (r : NozzleRecord) (leaves : Prop) [Decidable leaves] (s : State) : State :=
  { s with
    nozzles := Tab.set .cold s.nozzles g r
    firing := if leaves then { s.firing with
        queues := Tab.set [] s.firing.queues g ((s.queue g).filter fun e => e.phase != .waiting) }
      else s.firing
    tally := if leaves then
        s.tally.countChute (chuteOf g) .firingsAbandoned ((s.queue g).countP fun e => e.phase == .waiting)
      else s.tally
    link := { s.link with window := none } }

/-- What the write does, and what is concluded where entries leave the queue (R137, R155). -/
theorem writeNozzle_eq {s : State} {g : Nat} {f : NozzleFields} {leaves : Prop} [Decidable leaves]
    (h : ((s.nozzle g).state = .inService ∧ (f.apply (s.nozzle g)).state = .masked) ↔ leaves) :
    writeNozzle g f s = if leaves then conclude (nozzleWritten g (f.apply (s.nozzle g)) leaves s)
      else nozzleWritten g (f.apply (s.nozzle g)) leaves s := by
  unfold writeNozzle nozzleWritten
  simp only [h]
  split <;> rfl

/-- The reply reports the record written and the queue as the write leaves it (R64, R135). -/
theorem nozzleReport_written {s : State} (hop : s.ctl.op ≠ .windDown) (g : Nat) (r : NozzleRecord) (leaves : Prop)
    [Decidable leaves] :
    nozzleReport g (if leaves then conclude (nozzleWritten g r leaves s) else nozzleWritten g r leaves s)
      = nozzleBytes g r ((nozzleWritten g r leaves s).queue g) := by
  have hreport : nozzleReport g (nozzleWritten g r leaves s)
      = nozzleBytes g r ((nozzleWritten g r leaves s).queue g) := by
    unfold nozzleReport
    congr 1
    exact Tab.get_set_same _ _ _ _
  split
  · exact (nozzleReport_conclude (s := nozzleWritten g r leaves s) hop g).trans hreport
  · exact hreport

/-- Settles O47: the commands by their own equations, the fields by theirs, and the reply after what is concluded. -/
theorem nozzleReadAndWrite : Obligations.NozzleReadAndWrite := by
  refine ⟨fun s addr g h => ⟨exec_nozzleRead g h, ?_⟩, fun g r q => rfl⟩
  intro presence state off lat wear h0 h1 h2 h3 fields r r' leaves waiting
  have hread : readFields presence fields = some (fieldsOf state off lat wear) := readFields_present h0 h1 h2 h3
  refine (exec_nozzleWrite h length_fields_le hread).trans (congrArg _ ?_)
  refine ite_congr rfl (fun _ => rfl) fun hrange => ite_congr ?_ (fun _ => rfl) fun hop =>
    ite_congr rfl (fun _ => rfl) fun hfailed => ?_
  · simp [fieldsOf]
  · have hcode : ∀ code ∈ state, code = 0 ∨ code = 1 := fun code hmem => by
      by_contra hne
      exact hrange (.inr ⟨code, hmem, not_or.1 hne⟩)
    have happly : (fieldsOf state off lat wear).apply r = r' := apply_fieldsOf hcode hfailed
    have hleaves : (r.state = .inService ∧ r'.state = .masked) ↔ leaves := and_congr_right fun hin =>
      writtenRecord_masked hin
    have hwrite := writeNozzle_eq (s := s) (g := g.toNat) (f := fieldsOf state off lat wear) (happly ▸ hleaves)
    have hreport := nozzleReport_written (fun ho => hop (.inl ho)) g.toNat r' leaves
    rw [hwrite, happly, hreport, clampedIf_eq replaced_fieldsOf]
    rfl

end Sys2Proof.Machine
end

section
/-! Completions of OPENs and CLOSEs (O26): what each makes of its entry, its bus, the tally and the notices (R62, R71, R74,
R101, R102, R104, R120, R121, R129, R134). -/

namespace Sys2Proof.Machine

/-! ### The nozzle record (7.6) -/

/-- A nozzle in service that has failed (R74). -/
abbrev LeavesService (before after : NozzleRecord) : Prop := before.state = .inService ∧ after.state = .failed

/-- A nozzle that was not FAILED and now is (R134). -/
abbrev BecomesFailed (before after : NozzleRecord) : Prop := before.state ≠ .failed ∧ after.state = .failed

/-- What is left of the entries of a nozzle: those that have started, where it leaves service (R74). -/
def keptEntries (leaves : Prop) [Decidable leaves] (l : List Entry) : List Entry :=
  if leaves then l.filter fun e => e.phase != .waiting else l

/-- What the result of a transaction does by way of the nozzle record of `g`, `unconfirmed` if it is a CLOSE that is not
DONE (R74, R129, R134). -/
structure Recorded (s v : State) (g : Nat) (unconfirmed : Bool) : Prop where
  queue : v.queue g = keptEntries (LeavesService (s.nozzle g) (v.nozzle g)) (s.queue g)
  others : ∀ g', g' ≠ g → v.queue g' = s.queue g'
  tally : v.tally = if LeavesService (s.nozzle g) (v.nozzle g) then
      s.tally.countChute (chuteOf g) .firingsAbandoned ((s.queue g).countP fun e => e.phase == .waiting)
    else s.tally
  notices : v.notices =
    let b := if BecomesFailed (s.nozzle g) (v.nozzle g) then
        s.notices.set s.settings.noticeMask .nozzleFailed (some (chuteOf g))
      else s.notices
    if unconfirmed then b.set s.settings.noticeMask .closeFailed (some (chuteOf g)) else b
  rest : v = { s with
    nozzles := v.nozzles, firing := { s.firing with queues := v.firing.queues }, tally := v.tally
    notices := v.notices }

section
variable {s v : State} {g : Nat} {r : NozzleRecord}

/-- A record that keeps its state. -/
theorem setNozzle_recorded (hr : r.state = (s.nozzle g).state) : Recorded s (s.setNozzle g r) g false := by
  have hstays : ¬LeavesService (s.nozzle g) ((s.setNozzle g r).nozzle g) := by
    rintro ⟨hin, hfailed⟩
    rw [nozzle_setNozzle_same, hr, hin] at hfailed
    cases hfailed
  have hkeeps : ¬BecomesFailed (s.nozzle g) ((s.setNozzle g r).nozzle g) := by
    rintro ⟨hnot, hfailed⟩
    rw [nozzle_setNozzle_same, hr] at hfailed
    exact hnot hfailed
  exact ⟨(if_neg hstays).symm, fun _ _ => rfl, (if_neg hstays).symm, (if_neg hkeeps).symm, rfl⟩

/-- Making a nozzle FAILED touches the records, the queues, the tally and the notices (R134). -/
theorem makeFailed_rest (cause : FailureCause) : makeFailed g cause (s.setNozzle g r) = { s with
    nozzles := (makeFailed g cause (s.setNozzle g r)).nozzles
    firing := { s.firing with queues := (makeFailed g cause (s.setNozzle g r)).firing.queues }
    tally := (makeFailed g cause (s.setNozzle g r)).tally
    notices := (makeFailed g cause (s.setNozzle g r)).notices } := by
  have hfiring : ∀ u : State, (makeFailed g cause u).firing =
      { u.firing with queues := (makeFailed g cause u).firing.queues } := by
    intro u
    unfold makeFailed
    dsimp only
    split
    · rfl
    · split <;> rfl
  have hframe := makeFailed_frame (s := s.setNozzle g r) g cause
  rw [hfiring] at hframe
  exact hframe

/-- A nozzle that is made FAILED, its last result taken (R134). -/
theorem makeFailed_recorded (cause : FailureCause) (hr : r.state = (s.nozzle g).state) :
    Recorded s (makeFailed g cause (s.setNozzle g r)) g false := by
  have hafter := makeFailed_nozzle (s.setNozzle g r) g cause
  rw [nozzle_setNozzle_same] at hafter
  by_cases hfailed : r.state = .failed
  · have hnothing : makeFailed g cause (s.setNozzle g r) = s.setNozzle g r :=
      if_pos (by rwa [nozzle_setNozzle_same])
    rw [hnothing]
    exact setNozzle_recorded hr
  · have hstate : ((makeFailed g cause (s.setNozzle g r)).nozzle g).state = .failed := by
      rw [hafter, if_neg hfailed]
    have hbecomes : BecomesFailed (s.nozzle g) ((makeFailed g cause (s.setNozzle g r)).nozzle g) :=
      ⟨hr ▸ hfailed, hstate⟩
    have hnot : ¬((s.setNozzle g r).nozzle g).state = .failed := by rwa [nozzle_setNozzle_same]
    by_cases hin : (s.nozzle g).state = .inService
    · have hleaves : LeavesService (s.nozzle g) ((makeFailed g cause (s.setNozzle g r)).nozzle g) := ⟨hin, hstate⟩
      have heq : makeFailed g cause (s.setNozzle g r) = abandonWaiting g (setNotice .nozzleFailed (some (chuteOf g))
          ((s.setNozzle g r).setNozzle g { (s.setNozzle g r).nozzle g with state := .failed, cause := cause })) :=
        (if_neg hnot).trans (if_pos (by rw [nozzle_setNozzle_same, hr, hin]))
      refine ⟨?_, fun g' hg => ?_, ?_, ?_, makeFailed_rest cause⟩
      · rw [keptEntries, if_pos hleaves, heq]
        exact Tab.get_set_same _ _ _ _
      · rw [heq]
        exact Tab.get_set_other _ _ _ hg
      · rw [if_pos hleaves, heq]
        rfl
      · simp only [if_pos hbecomes]
        rw [heq]
        rfl
    · have hstays : ¬LeavesService (s.nozzle g) ((makeFailed g cause (s.setNozzle g r)).nozzle g) := fun h => hin h.1
      have heq : makeFailed g cause (s.setNozzle g r) = setNotice .nozzleFailed (some (chuteOf g))
          ((s.setNozzle g r).setNozzle g { (s.setNozzle g r).nozzle g with state := .failed, cause := cause }) :=
        (if_neg hnot).trans (if_neg (by rwa [nozzle_setNozzle_same, hr]))
      refine ⟨?_, fun g' hg => ?_, ?_, ?_, makeFailed_rest cause⟩
      · rw [keptEntries, if_neg hstays, heq]
        rfl
      · rw [heq]
        rfl
      · rw [if_neg hstays, heq]
        rfl
      · simp only [if_pos hbecomes]
        rw [heq]
        rfl

/-- A CLOSE that is not confirmed sets CLOSE FAILED as well (R129). -/
theorem closeNotConfirmed_recorded (result : LastResult) : Recorded s (closeNotConfirmed g result s) g true := by
  unfold closeNotConfirmed
  obtain ⟨hqueue, hothers, htally, hnotices, hrest⟩ :=
    makeFailed_recorded (r := { s.nozzle g with lastResult := result }) .closeNotConfirmed rfl
  revert hqueue hothers htally hnotices hrest
  generalize makeFailed g .closeNotConfirmed (s.setNozzle g { s.nozzle g with lastResult := result }) = v
  intro hqueue hothers htally hnotices hrest
  refine ⟨hqueue, hothers, htally, ?_, ?_⟩
  · have hmask : v.settings = s.settings := by rw [hrest]
    show v.notices.set v.settings.noticeMask _ _ = _
    rw [hmask, hnotices]
    rfl
  · rw [hrest]
    rfl

/-- The result of an OPEN or CLOSE acts by way of the nozzle record (7.6). -/
theorem nozzleEffect_recorded {t : Transaction} {result : LastResult} (hk : t.kind ≠ .closeAll)
    (hr : result ≠ .none) (m : Nat) (s : State) :
    Recorded s (nozzleEffect t result m s) t.nozzle (t.kind == .close && result != .done) := by
  cases hkind : t.kind with
  | closeAll => exact absurd hkind hk
  | opn =>
    cases result with
    | none => exact absurd rfl hr
    | done =>
      simp only [nozzleEffect, hkind]
      refine setNozzle_recorded ?_
      split <;> rfl
    | noReply =>
      simp only [nozzleEffect, hkind, openNoReply]
      split
      · exact makeFailed_recorded _ rfl
      · exact setNozzle_recorded rfl
    | coilFault =>
      simp only [nozzleEffect, hkind]
      exact makeFailed_recorded _ rfl
  | close =>
    cases result with
    | none => exact absurd rfl hr
    | done =>
      simp only [nozzleEffect, hkind]
      exact setNozzle_recorded rfl
    | noReply =>
      simp only [nozzleEffect, hkind]
      exact closeNotConfirmed_recorded _
    | coilFault =>
      simp only [nozzleEffect, hkind]
      exact closeNotConfirmed_recorded _

end

/-! ### The dispatcher -/

/-- What the dispatcher makes of a queue, its air, its bus and its count (R101 to R104). -/
structure Moved (v w : State) (g : Nat) (q : List Entry) (air : PerChute Nat) (more : List Request)
    (counter : Option ChuteCounter) : Prop where
  queue : w.queue g = q
  others : ∀ g', g' ≠ g → w.queue g' = v.queue g'
  air : w.firing.openCount = air
  bus : w.bus = v.bus.set (chuteOf g) { v.busOf (chuteOf g) with
    requests := (v.busOf (chuteOf g)).requests ++ more }
  tally : w.tally = match counter with
    | some c => v.tally.countChute (chuteOf g) c 1
    | none => v.tally
  rest : w = { v with
    firing := { v.firing with queues := w.firing.queues, openCount := w.firing.openCount }
    bus := w.bus, tally := w.tally }

section
variable {v : State} {t : Transaction} {result : LastResult}

/-- With nothing handed over a bus is as it was. -/
theorem set_busOf_of_none (v : State) (h : Chute) :
    v.bus.set h { v.busOf h with requests := (v.busOf h).requests ++ [] } = v.bus := by
  rw [List.append_nil]
  exact PerChute.set_get _ _

/-- An entry that is gone is left alone (notes/assumptions/22). -/
theorem dispatchEffect_of_gone (hk : t.kind ≠ .closeAll) (hgone : ∀ e ∈ v.queue t.nozzle, e.ident ≠ t.ident) :
    Moved v (dispatchEffect t result v) t.nozzle (v.queue t.nozzle) v.firing.openCount [] none := by
  have hfind : findEntry v t.nozzle t.ident = none := List.find?_eq_none.2 fun e he => by simpa using hgone e he
  have hnothing : dispatchEffect t result v = v := by
    cases hkind : t.kind with
    | closeAll => exact absurd hkind hk
    | opn => simp only [dispatchEffect, hkind, dispatchOpen, hfind]
    | close => simp only [dispatchEffect, hkind, dispatchClose, hfind]
  rw [hnothing]
  exact ⟨rfl, fun _ _ => rfl, rfl, (set_busOf_of_none v _).symm, rfl, rfl⟩

variable {earlier later : List Entry} {e : Entry}

/-- The completion of a CLOSE: a CLOSING entry leaves its queue, any other stays (R71, R104; notes/assumptions/22). -/
theorem dispatchEffect_of_close (hk : t.kind = .close) (hq : v.queue t.nozzle = earlier ++ e :: later)
    (hids : ((v.queue t.nozzle).map (·.ident)).Nodup) (he : e.ident = t.ident) :
    Moved v (dispatchEffect t result v) t.nozzle
      (if e.phase = .closing then earlier ++ later else earlier ++ e :: later) v.firing.openCount [] none := by
  have hfind : findEntry v t.nozzle t.ident = some e := by
    rw [hq] at hids
    exact find_entry hq (fun y hy => by simpa [he] using (ident_ne hids).1 y hy) (by simp [he])
  simp only [dispatchEffect, hk, dispatchClose, hfind]
  split
  · refine ⟨?_, fun g' hg => queue_setQueue_other v hg _, rfl, (set_busOf_of_none v _).symm, rfl, rfl⟩
    rw [removeEntry, queue_setQueue_same, hq, ← he]
    exact filter_ident (hq ▸ hids)
  · exact ⟨hq, fun _ _ => rfl, rfl, (set_busOf_of_none v _).symm, rfl, rfl⟩

/-- The count of a completed OPEN (R101, R102). -/
def openCounter (result : LastResult) : ChuteCounter := if result = .done then .opened else .unconfirmed

/-- The queue when one of its entries is changed by its identity. -/
theorem queue_updateEntry {g : Nat} (f : Entry → Entry) (hq : v.queue g = earlier ++ e :: later)
    (hids : ((v.queue g).map (·.ident)).Nodup) : (updateEntry g e.ident f v).queue g = earlier ++ f e :: later := by
  rw [updateEntry, queue_setQueue_same, hq]
  exact map_ident f (hq ▸ hids)

/-- An OPEN completed before the end of its entry (R101). -/
theorem openCompleted_of_before {g : Nat} (hend : atOrBefore e.stop v.clk.now = false) : openCompleted g e v =
    updateEntry g e.ident (fun x => { x with
      phase := .opened, firing := x.firing.map fun f => { f with openReq := .complete } }) v :=
  if_neg (by rw [hend]; decide)

/-- An OPEN completed at the end of its entry or later (R101). -/
theorem openCompleted_of_overdue {g : Nat} (hend : atOrBefore e.stop v.clk.now = true) : openCompleted g e v =
    handRequest ⟨false, g, e.ident, e.stop⟩ (updateEntry g e.ident (fun x => { x with
      phase := .closing
      firing := x.firing.map fun f => { f with openReq := .complete, closeReq := .waiting } })
        (v.setOpenCount (chuteOf g) (v.openCount (chuteOf g) - 1))) :=
  if_pos hend

section
variable (hk : t.kind = .opn) (hq : v.queue t.nozzle = earlier ++ e :: later)
  (hids : ((v.queue t.nozzle).map (·.ident)).Nodup) (he : e.ident = t.ident)
include hk hq hids he

/-- The completion of an OPEN is counted, and goes by the phase of its entry (R101, R102, R62). -/
theorem dispatchEffect_of_open : dispatchEffect t result v =
    if e.phase = .opening then openCompleted t.nozzle e (countChute (chuteOf t.nozzle) (openCounter result) v)
    else updateEntry t.nozzle e.ident (fun x => { x with
      firing := x.firing.map fun f => { f with openReq := .complete } })
        (countChute (chuteOf t.nozzle) (openCounter result) v) := by
  have hfind : findEntry v t.nozzle t.ident = some e := by
    rw [hq] at hids
    exact find_entry hq (fun y hy => by simpa [he] using (ident_ne hids).1 y hy) (by simp [he])
  simp only [dispatchEffect, hk, dispatchOpen, hfind, he]
  rfl

/-- An OPENING entry before its end becomes OPEN (R101). -/
theorem dispatchEffect_of_opening (hp : e.phase = .opening) (hend : atOrBefore e.stop v.clk.now = false) :
    Moved v (dispatchEffect t result v) t.nozzle
      (earlier ++ { e with phase := .opened, firing := e.firing.map fun f => { f with openReq := .complete } } :: later)
      v.firing.openCount [] (some (openCounter result)) := by
  rw [dispatchEffect_of_open hk hq hids he, if_pos hp, openCompleted_of_before (v := countChute _ _ v) hend]
  exact ⟨queue_updateEntry (v := countChute _ _ v) _ hq hids, fun g' hg => queue_setQueue_other _ hg _, rfl,
    (set_busOf_of_none v _).symm, rfl, rfl⟩

/-- An OPENING entry whose end has come becomes CLOSING with a CLOSE due at that end (R101). -/
theorem dispatchEffect_of_overdue (hp : e.phase = .opening) (hend : atOrBefore e.stop v.clk.now = true) :
    Moved v (dispatchEffect t result v) t.nozzle
      (earlier ++ { e with
        phase := .closing
        firing := e.firing.map fun f => { f with openReq := .complete, closeReq := .waiting } } :: later)
      (v.firing.openCount.set (chuteOf t.nozzle) (v.firing.openCount.get (chuteOf t.nozzle) - 1))
      [⟨false, t.nozzle, t.ident, e.stop⟩] (some (openCounter result)) := by
  rw [dispatchEffect_of_open hk hq hids he, if_pos hp, openCompleted_of_overdue (v := countChute _ _ v) hend, ← he]
  exact ⟨queue_updateEntry (v := State.setOpenCount (countChute _ _ v) _ _) _ hq hids,
    fun g' hg => queue_setQueue_other (State.setOpenCount (countChute _ _ v) _ _) hg _, rfl, rfl, rfl, rfl⟩

/-- An entry that is no longer OPENING keeps its phase (R62; notes/assumptions/22). -/
theorem dispatchEffect_of_other (hp : e.phase ≠ .opening) :
    Moved v (dispatchEffect t result v) t.nozzle
      (earlier ++ { e with firing := e.firing.map fun f => { f with openReq := .complete } } :: later)
      v.firing.openCount [] (some (openCounter result)) := by
  rw [dispatchEffect_of_open hk hq hids he, if_neg hp]
  exact ⟨queue_updateEntry (v := countChute _ _ v) _ hq hids, fun g' hg => queue_setQueue_other _ hg _, rfl,
    (set_busOf_of_none v _).symm, rfl, rfl⟩

end

end

/-! ### The bus, the tally and the end of the transaction -/

/-- A tally in which only the row of a chute has changed. -/
def withChute (t : TallyTable) (h : Chute) (row : ChuteTally) : TallyTable := { t with chutes := t.chutes.set h row }

theorem withChute_get (t : TallyTable) (h : Chute) : withChute t h (t.chutes.get h) = t := by
  rw [withChute, PerChute.set_get]

theorem countChute_withChute (t : TallyTable) (h : Chute) (row : ChuteTally) (c : ChuteCounter) (n : Nat) :
    (withChute t h row).countChute h c n = withChute t h (row.add c n) := by
  simp only [withChute, TallyTable.countChute, PerChute.modify, PerChute.get_set_same, PerChute.set_set]

/-- The completion of an answered retry, which flips the lane (R120). -/
abbrev Flips (t : Transaction) (result : LastResult) : Prop := t.retry = true ∧ result ≠ .noReply

/-- The row of a chute after the flip (R120). -/
def rowAfterFlip (t : Transaction) (result : LastResult) (s : State) : ChuteTally :=
  let row := s.tally.chutes.get (chuteOf t.nozzle)
  if Flips t result then row.add .laneFlips 1 else row

/-- What an answered retry makes of the bus, the tally and the notices (R120). -/
def flippedState (t : Transaction) (result : LastResult) (s : State) : State :=
  let h := chuteOf t.nozzle
  { s with
    bus := s.bus.set h { s.busOf h with active := if Flips t result then t.lane else (s.busOf h).active }
    tally := withChute s.tally h (rowAfterFlip t result s)
    notices := if Flips t result then s.notices.set s.settings.noticeMask .laneFlipped (some h) else s.notices }

theorem flippedState_eq (t : Transaction) (result : LastResult) (s : State) :
    (if t.retry && result != .noReply then flipLane (chuteOf t.nozzle) t.lane s else s) = flippedState t result s := by
  have hiff : (t.retry && result != .noReply) = true ↔ Flips t result := by simp
  by_cases hf : Flips t result
  · rw [if_pos (hiff.2 hf)]
    simp only [flippedState, rowAfterFlip, if_pos hf]
    rfl
  · rw [if_neg fun h => hf (hiff.1 h)]
    simp only [flippedState, rowAfterFlip, if_neg hf, withChute_get]
    exact congrArg (fun b => { s with bus := b }) (PerChute.set_get s.bus (chuteOf t.nozzle)).symm

/-- A state with the bus of a chute free (R121). -/
def freedState (h : Chute) (s : State) : State := s.setBus h { s.busOf h with inFlight := none }

theorem freedState_bus {h : Chute} {s : State} {p : PerChute BusController} {b : BusController} (hb : s.bus = p.set h b) :
    (freedState h s).bus = p.set h { b with inFlight := none } := by
  simp only [freedState, State.setBus, State.busOf, hb, PerChute.get_set_same, PerChute.set_set]

/-- What the record and the dispatcher leave as it was, the freed bus leaves as it was. -/
theorem freedState_rest {s v w : State} (h : Chute)
    (hv : v = { s with
      nozzles := v.nozzles, firing := { s.firing with queues := v.firing.queues }, bus := v.bus, tally := v.tally
      notices := v.notices })
    (hw : w = { v with
      firing := { v.firing with queues := w.firing.queues, openCount := w.firing.openCount }
      bus := w.bus, tally := w.tally }) :
    freedState h w = { s with
      firing := { s.firing with queues := (freedState h w).firing.queues, openCount := (freedState h w).firing.openCount }
      bus := (freedState h w).bus, nozzles := (freedState h w).nozzles, tally := (freedState h w).tally
      notices := (freedState h w).notices } := by
  rw [hw, hv]
  rfl

/-- A completed OPEN or CLOSE: the flip, the nozzle record, the entry and the bus, before the grant (R120, R121). -/
def completedState (t : Transaction) (result : LastResult) (m : Nat) (s : State) : State :=
  freedState (chuteOf t.nozzle) (dispatchEffect t result (nozzleEffect t result m (flippedState t result s)))

theorem completeTransaction_eq (t : Transaction) (result : LastResult) (m : Nat) (s : State) :
    completeTransaction (chuteOf t.nozzle) t result m s =
      conclude (grantNext (chuteOf t.nozzle) (completedState t result m s)) := by
  rw [completedState, ← flippedState_eq]
  rfl

/-- The commands that complete an OPEN or CLOSE, with the result and the latency taken (R118, R119, R121). -/
theorem exec_of_completes {c : Instr} {s : State} {h : Chute} {t : Transaction} {result : LastResult} (hs : Awake s)
    (ht : (s.busOf h).inFlight = some t) (hk : t.kind ≠ .closeAll) (hc : Completes s h t result c) :
    result ≠ .none ∧ ∃ m, exec c s = .next (completeTransaction h t result m s) := by
  cases c with
  | valveReply k lane bytes =>
    obtain ⟨rfl, rfl, v, hdecode, htag, hwait, rfl⟩ := hc
    have hwithin : withinWait t s.clk.now = true := by
      unfold withinWait
      split
      · rfl
      · rename_i stop hstop
        simp [hwait stop hstop]
    have hreply : valveReply k t.lane bytes s =
        completeTransaction k t (if v.done then .done else .coilFault) v.latency s := by
      simp only [valveReply, ht, hdecode, htag, hwithin, and_self, if_true]
      cases hkind : t.kind with
      | closeAll => exact absurd hkind hk
      | opn => rfl
      | close => rfl
    exact ⟨by split <;> decide, v.latency, (live_awake _ hs).trans (congrArg _ hreply)⟩
  | replyWaitExpiry k =>
    obtain ⟨rfl, hretry, rfl, stop, hstop, hdue⟩ := hc
    have hexpiry : replyWaitExpiry k s = completeTransaction k t .noReply 0 s := by
      simp only [replyWaitExpiry, ht, hstop, hdue, hretry, if_true]
      cases hkind : t.kind with
      | closeAll => exact absurd hkind hk
      | opn => rfl
      | close => rfl
    exact ⟨by decide, 0, (live_awake _ hs).trans (congrArg _ hexpiry)⟩
  | _ => exact absurd hc id

/-! ### The completion in the terms of the state it finds -/

theorem keptEntries_append (leaves : Prop) [Decidable leaves] (l l' : List Entry) :
    keptEntries leaves (l ++ l') = keptEntries leaves l ++ keptEntries leaves l' := by
  unfold keptEntries
  split
  · exact List.filter_append ..
  · rfl

/-- An entry that has started is kept (R74). -/
theorem keptEntries_cons (leaves : Prop) [Decidable leaves] {e : Entry} (l : List Entry) (he : e.phase ≠ .waiting) :
    keptEntries leaves (e :: l) = e :: keptEntries leaves l := by
  unfold keptEntries
  split
  · exact List.filter_cons_of_pos (by simpa using he)
  · rfl

theorem keptEntries_sublist (leaves : Prop) [Decidable leaves] (l : List Entry) :
    (keptEntries leaves l).Sublist l := by
  unfold keptEntries
  split
  · exact List.filter_sublist
  · exact List.Sublist.refl l

/-- The state when the nozzle record has taken the result. -/
abbrev recordedState (t : Transaction) (result : LastResult) (m : Nat) (s : State) : State :=
  nozzleEffect t result m (flippedState t result s)

/-- The row of a chute when the nozzle record has taken the result (R74, R120). -/
def rowAfterRecord (t : Transaction) (result : LastResult) (s : State) (after : NozzleRecord) : ChuteTally :=
  let row := rowAfterFlip t result s
  if LeavesService (s.nozzle t.nozzle) after then
    row.add .firingsAbandoned ((s.queue t.nozzle).countP fun e => e.phase == .waiting)
  else row

/-- A row with the count of the dispatcher (R101, R102). -/
def rowAfterCount (counter : Option ChuteCounter) (row : ChuteTally) : ChuteTally :=
  match counter with
  | some c => row.add c 1
  | none => row

/-- What a completion does, all but the nozzle record: the queue and the air of its nozzle and what is handed over and
counted are those of `Moved`. -/
structure Completed (s u : State) (t : Transaction) (result : LastResult) (q : List Entry) (air : PerChute Nat)
    (more : List Request) (counter : Option ChuteCounter) : Prop where
  queue : u.queue t.nozzle = q
  others : ∀ g', g' ≠ t.nozzle → u.queue g' = s.queue g'
  air : u.firing.openCount = air
  bus : u.bus = s.bus.set (chuteOf t.nozzle) { s.busOf (chuteOf t.nozzle) with
    inFlight := none
    active := if Flips t result then t.lane else (s.busOf (chuteOf t.nozzle)).active
    requests := (s.busOf (chuteOf t.nozzle)).requests ++ more }
  tally : u.tally = withChute s.tally (chuteOf t.nozzle)
    (rowAfterCount counter (rowAfterRecord t result s (u.nozzle t.nozzle)))
  notices : u.notices =
    let mask := s.settings.noticeMask
    let h := some (chuteOf t.nozzle)
    let a := if Flips t result then s.notices.set mask .laneFlipped h else s.notices
    let b := if BecomesFailed (s.nozzle t.nozzle) (u.nozzle t.nozzle) then a.set mask .nozzleFailed h else a
    if t.kind = .close ∧ result ≠ .done then b.set mask .closeFailed h else b
  rest : u = { s with
    firing := { s.firing with queues := u.firing.queues, openCount := u.firing.openCount }
    bus := u.bus, nozzles := u.nozzles, tally := { s.tally with chutes := u.tally.chutes }, notices := u.notices }

section
variable {s : State} {t : Transaction} {result : LastResult} {m : Nat}

theorem completedState_nozzle (t : Transaction) (result : LastResult) (m : Nat) (s : State) (g : Nat) :
    (completedState t result m s).nozzle g = (recordedState t result m s).nozzle g :=
  (congrArg (fun u => State.nozzle u g) (dispatchEffect_frame (recordedState t result m s) t result)).trans rfl

variable (hk : t.kind ≠ .closeAll) (hr : result ≠ .none)
include hk hr

theorem recordedState_recorded : Recorded (flippedState t result s) (recordedState t result m s) t.nozzle
    (t.kind == .close && result != .done) :=
  nozzleEffect_recorded hk hr m _

theorem recordedState_tally : (recordedState t result m s).tally = withChute s.tally (chuteOf t.nozzle)
    (rowAfterRecord t result s ((recordedState t result m s).nozzle t.nozzle)) := by
  rw [(recordedState_recorded hk hr).tally]
  by_cases hl : LeavesService (s.nozzle t.nozzle) ((recordedState t result m s).nozzle t.nozzle)
  · rw [rowAfterRecord, if_pos hl]
    exact (if_pos hl).trans (countChute_withChute ..)
  · rw [rowAfterRecord, if_neg hl]
    exact if_neg hl

/-- What the record and the dispatcher do, put together. -/
theorem completed_of_moved {q : List Entry} {air : PerChute Nat} {more : List Request} {counter : Option ChuteCounter}
    (hw : Moved (recordedState t result m s) (dispatchEffect t result (recordedState t result m s)) t.nozzle q air more
      counter) : Completed s (completedState t result m s) t result q air more counter := by
  have hv := recordedState_recorded (s := s) (m := m) hk hr
  have hbus : (recordedState t result m s).bus = (flippedState t result s).bus :=
    (congrArg State.bus hv.rest).trans rfl
  have htally : (completedState t result m s).tally = withChute s.tally (chuteOf t.nozzle)
      (rowAfterCount counter (rowAfterRecord t result s ((completedState t result m s).nozzle t.nozzle))) := by
    rw [completedState_nozzle]
    refine hw.tally.trans ?_
    rw [recordedState_tally hk hr]
    cases counter with
    | none => rfl
    | some c => exact countChute_withChute ..
  refine ⟨hw.queue, fun g' hg => (hw.others g' hg).trans (hv.others g' hg), hw.air, ?_, htally, ?_, ?_⟩
  · have hhanded : (dispatchEffect t result (recordedState t result m s)).bus = s.bus.set (chuteOf t.nozzle)
        { s.busOf (chuteOf t.nozzle) with
          active := if Flips t result then t.lane else (s.busOf (chuteOf t.nozzle)).active
          requests := (s.busOf (chuteOf t.nozzle)).requests ++ more } := by
      rw [hw.bus]
      simp only [State.busOf, hbus, flippedState, PerChute.get_set_same, PerChute.set_set]
    exact freedState_bus hhanded
  · rw [completedState_nozzle]
    exact ((congrArg State.notices hw.rest).trans hv.notices).trans (if_congr (by simp) rfl rfl)
  · have hself : (completedState t result m s).tally =
        { s.tally with chutes := (completedState t result m s).tally.chutes } := by
      rw [htally]
      rfl
    rw [← hself]
    exact freedState_rest (chuteOf t.nozzle) (hv.rest.trans (by rw [hbus]; rfl)) hw.rest

/-- The queue that the dispatcher finds: a nozzle that leaves service has lost its WAITING entries (R74). -/
theorem recordedState_queue : (recordedState t result m s).queue t.nozzle =
    keptEntries (LeavesService (s.nozzle t.nozzle) ((completedState t result m s).nozzle t.nozzle))
      (s.queue t.nozzle) := by
  rw [completedState_nozzle]
  exact (recordedState_recorded hk hr).queue

theorem completed_air : (recordedState t result m s).firing.openCount = s.firing.openCount :=
  (congrArg (fun v => v.firing.openCount) (recordedState_recorded hk hr).rest).trans rfl

theorem completed_clk : (recordedState t result m s).clk = s.clk :=
  (congrArg State.clk (recordedState_recorded hk hr).rest).trans rfl

/-- An entry that is gone is left alone (notes/assumptions/22). -/
theorem completed_of_gone (hgone : ∀ e ∈ s.queue t.nozzle, e.ident ≠ t.ident) :
    Completed s (completedState t result m s) t result
      (keptEntries (LeavesService (s.nozzle t.nozzle) ((completedState t result m s).nozzle t.nozzle))
        (s.queue t.nozzle)) s.firing.openCount [] none := by
  have hqueue := recordedState_queue (s := s) (m := m) hk hr
  have hmoved := dispatchEffect_of_gone (v := recordedState t result m s) (result := result) hk
    fun e he => hgone e ((keptEntries_sublist ..).subset (hqueue ▸ he))
  rw [hqueue, completed_air hk hr] at hmoved
  exact completed_of_moved hk hr hmoved

section
variable {earlier later : List Entry} {e : Entry} (hq : s.queue t.nozzle = earlier ++ e :: later)
  (hids : ((s.queue t.nozzle).map (·.ident)).Nodup) (hstarted : e.phase ≠ .waiting)
include hq hids hstarted

/-- The completions of one entry, over the queue that the dispatcher finds. -/
theorem completed_of_found {q : List Entry → List Entry → List Entry} {air : PerChute Nat} {more : List Request}
    {counter : Option ChuteCounter}
    (hmoved : ∀ {v : State} {a b : List Entry}, v.queue t.nozzle = a ++ e :: b →
      ((v.queue t.nozzle).map (·.ident)).Nodup → v.firing.openCount = s.firing.openCount → v.clk = s.clk →
      Moved v (dispatchEffect t result v) t.nozzle (q a b) air more counter) :
    Completed s (completedState t result m s) t result
      (let kept := keptEntries (LeavesService (s.nozzle t.nozzle) ((completedState t result m s).nozzle t.nozzle))
       q (kept earlier) (kept later)) air more counter := by
  have hqueue := recordedState_queue (s := s) (m := m) hk hr
  have hnodup : (((recordedState t result m s).queue t.nozzle).map (·.ident)).Nodup :=
    hids.sublist (hqueue ▸ (keptEntries_sublist ..).map _)
  refine completed_of_moved hk hr (hmoved ?_ hnodup (completed_air hk hr) (completed_clk hk hr))
  rw [hqueue, hq, keptEntries_append, keptEntries_cons _ _ hstarted]

variable (he : e.ident = t.ident)
include he

/-- The completion of a CLOSE (R71, R104). -/
theorem completed_of_close (hkind : t.kind = .close) : Completed s (completedState t result m s) t result
    (let kept := keptEntries (LeavesService (s.nozzle t.nozzle) ((completedState t result m s).nozzle t.nozzle))
     if e.phase = .closing then kept earlier ++ kept later else kept earlier ++ e :: kept later)
    s.firing.openCount [] none :=
  completed_of_found hk hr hq hids hstarted (q := fun a b => if e.phase = .closing then a ++ b else a ++ e :: b)
    fun hv hn ha _ => ha ▸ dispatchEffect_of_close hkind hv hn he

/-- The completion of an OPEN before the end of its entry (R101). -/
theorem completed_of_opening (hkind : t.kind = .opn) (hp : e.phase = .opening)
    (hend : atOrBefore e.stop s.clk.now = false) : Completed s (completedState t result m s) t result
    (let kept := keptEntries (LeavesService (s.nozzle t.nozzle) ((completedState t result m s).nozzle t.nozzle))
     kept earlier ++ { e with
       phase := .opened, firing := e.firing.map fun f => { f with openReq := .complete } } :: kept later)
    s.firing.openCount [] (some (openCounter result)) :=
  completed_of_found hk hr hq hids hstarted fun hv hn ha hclk =>
    ha ▸ dispatchEffect_of_opening hkind hv hn he hp (hclk ▸ hend)

/-- The completion of an OPEN when the end of its entry has come (R101). -/
theorem completed_of_overdue (hkind : t.kind = .opn) (hp : e.phase = .opening)
    (hend : atOrBefore e.stop s.clk.now = true) : Completed s (completedState t result m s) t result
    (let kept := keptEntries (LeavesService (s.nozzle t.nozzle) ((completedState t result m s).nozzle t.nozzle))
     kept earlier ++ { e with
       phase := .closing
       firing := e.firing.map fun f => { f with openReq := .complete, closeReq := .waiting } } :: kept later)
    (s.firing.openCount.set (chuteOf t.nozzle) (s.openCount (chuteOf t.nozzle) - 1))
    [⟨false, t.nozzle, t.ident, e.stop⟩] (some (openCounter result)) :=
  completed_of_found hk hr hq hids hstarted fun hv hn ha hclk =>
    ha ▸ dispatchEffect_of_overdue hkind hv hn he hp (hclk ▸ hend)

/-- The completion of an OPEN of an entry that is no longer OPENING (R62). -/
theorem completed_of_other (hkind : t.kind = .opn) (hp : e.phase ≠ .opening) :
    Completed s (completedState t result m s) t result
    (let kept := keptEntries (LeavesService (s.nozzle t.nozzle) ((completedState t result m s).nozzle t.nozzle))
     kept earlier ++ { e with firing := e.firing.map fun f => { f with openReq := .complete } } :: kept later)
    s.firing.openCount [] (some (openCounter result)) :=
  completed_of_found hk hr hq hids hstarted fun hv hn ha _ => ha ▸ dispatchEffect_of_other hkind hv hn he hp

/-- A completion is counted if it is of an OPEN (R101, R102, R104). -/
theorem completed_counts : ∃ (q : List Entry) (air : PerChute Nat) (more : List Request),
    Completed s (completedState t result m s) t result q air more
      (if t.kind = .opn then some (openCounter result) else none) := by
  cases hkind : t.kind with
  | closeAll => exact absurd hkind hk
  | close => exact ⟨_, _, _, completed_of_close hk hr hq hids hstarted he hkind⟩
  | opn =>
    by_cases hp : e.phase = .opening
    · cases hend : atOrBefore e.stop s.clk.now with
      | false => exact ⟨_, _, _, completed_of_opening hk hr hq hids hstarted he hkind hp hend⟩
      | true => exact ⟨_, _, _, completed_of_overdue hk hr hq hids hstarted he hkind hp hend⟩
    · exact ⟨_, _, _, completed_of_other hk hr hq hids hstarted he hkind hp⟩

end

/-- A completion, whether its entry is gone or not. -/
theorem completed_exists (hids : ((s.queue t.nozzle).map (·.ident)).Nodup)
    (hstarted : ∀ e ∈ s.queue t.nozzle, e.ident = t.ident → e.phase ≠ .waiting) :
    ∃ (q : List Entry) (air : PerChute Nat) (more : List Request) (counter : Option ChuteCounter),
      Completed s (completedState t result m s) t result q air more counter := by
  by_cases hfound : ∃ e ∈ s.queue t.nozzle, e.ident = t.ident
  · obtain ⟨e, hmem, he⟩ := hfound
    obtain ⟨earlier, later, hq⟩ := List.append_of_mem hmem
    obtain ⟨q, air, more, hdone⟩ := completed_counts (m := m) hk hr hq hids (hstarted e hmem he) he
    exact ⟨q, air, more, _, hdone⟩
  · exact ⟨_, _, _, _, completed_of_gone hk hr fun e hmem he => hfound ⟨e, hmem, he⟩⟩

end

/-- The row of the chute, and no other, is counted. -/
theorem Completed.row {s u : State} {t : Transaction} {result : LastResult} {q : List Entry} {air : PerChute Nat}
    {more : List Request} {counter : Option ChuteCounter} (h : Completed s u t result q air more counter) :
    u.tally.chutes = s.tally.chutes.set (chuteOf t.nozzle) (u.tally.chutes.get (chuteOf t.nozzle)) ∧
      u.tally.chutes.get (chuteOf t.nozzle) =
        rowAfterCount counter (rowAfterRecord t result s (u.nozzle t.nozzle)) := by
  have hrow : u.tally.chutes.get (chuteOf t.nozzle) =
      rowAfterCount counter (rowAfterRecord t result s (u.nozzle t.nozzle)) := by
    rw [h.tally]
    exact PerChute.get_set_same ..
  exact ⟨hrow ▸ congrArg TallyTable.chutes h.tally, hrow⟩

/-- Settles O26: the completion is the flip, the nozzle record, the dispatcher and the freed bus, one after the other; each
clause is the dispatcher's for the phase of the entry, over the queue that the record has left. -/
theorem completionMovesTheEntry : Obligations.CompletionMovesTheEntry := by
  intro c s h t result hs ht hk hh hids hstarted hc
  subst hh
  obtain ⟨hr, m, hexec⟩ := exec_of_completes hs ht hk hc
  refine ⟨completedState t result m s, hexec.trans (congrArg _ (completeTransaction_eq t result m s)), ?_⟩
  intro g flips fails leaves kept counted freed
  obtain ⟨_, _, _, _, hall⟩ := completed_exists (m := m) hk hr hids hstarted
  refine ⟨fun hgone => ?_, ?_, hall.notices, hall.others, hall.rest⟩
  · have hdone := completed_of_gone (m := m) hk hr hgone
    exact ⟨hdone.queue, hdone.air, hdone.bus, hdone.row.1, fun hfound => hfound.1.elim, fun _ => hdone.row.2⟩
  intro earlier later e hq he moved
  have hstart := hstarted e (hq ▸ List.mem_append_right _ List.mem_cons_self) he
  refine ⟨?_, fun hkind => ?_, fun hkind hp hend => ?_, fun hkind hp hend => ?_, fun hkind hp => ?_⟩
  · obtain ⟨_, _, _, hdone⟩ := completed_counts (m := m) hk hr hq hids hstart he
    refine ⟨hdone.row.1, fun hopen => ?_, fun hclose => ?_⟩
    · exact hdone.row.2.trans (congrArg (rowAfterCount · _) (if_pos hopen.2))
    · exact hdone.row.2.trans (congrArg (rowAfterCount · _) (if_neg fun hkind => hclose ⟨trivial, hkind⟩))
  · have hdone := completed_of_close (m := m) hk hr hq hids hstart he hkind
    refine ⟨hdone.air, hdone.bus, fun hp => ?_, fun hp => ?_⟩
    · exact (hdone.queue.trans (if_pos hp)).trans (congrArg (· ++ _) (List.append_nil _).symm)
    · exact (hdone.queue.trans (if_neg hp)).trans (List.append_cons ..)
  · have hdone := completed_of_opening (m := m) hk hr hq hids hstart he hkind hp hend
    exact ⟨hdone.air, hdone.bus, hdone.queue.trans (List.append_cons ..)⟩
  · have hdone := completed_of_overdue (m := m) hk hr hq hids hstart he hkind hp hend
    exact ⟨hdone.air, hdone.bus, hdone.queue.trans (List.append_cons ..)⟩
  · have hdone := completed_of_other (m := m) hk hr hq hids hstart he hkind hp
    exact ⟨hdone.air, hdone.bus, hdone.queue.trans (List.append_cons ..)⟩

end Sys2Proof.Machine
end

section
/-! Verdicts and deadlines of the held list (O7, O19): R83 to R88, R159. -/

namespace Sys2Proof.Machine

/-! ### The held entry of a chute and tag -/

section
variable {h : Chute} {tag : Byte} {s : State} {before after : List HeldEntry} {e : HeldEntry}

/-- The entry found is the first that carries the chute and tag. -/
theorem findHeld_of_first (hl : s.verdicts.held = before ++ e :: after)
    (hbefore : ∀ x ∈ before, ¬(x.chute = h ∧ x.tag = tag)) (hc : e.chute = h) (ht : e.tag = tag) :
    findHeld h tag s = some e := by
  have hnone : before.find? (HeldEntry.named h tag) = none := by
    simpa [HeldEntry.named, List.find?_eq_none] using hbefore
  have hnamed : HeldEntry.named h tag e = true := by simp [HeldEntry.named, hc, ht]
  rw [findHeld, hl, List.find?_append, hnone, List.find?_cons_of_pos hnamed, Option.none_or]

/-- The entry taken out is the first that carries the chute and tag, and the others keep their order. -/
theorem removeHeld_of_first (hl : s.verdicts.held = before ++ e :: after)
    (hbefore : ∀ x ∈ before, ¬(x.chute = h ∧ x.tag = tag)) (hc : e.chute = h) (ht : e.tag = tag) :
    removeHeld h tag s = { s with verdicts := { s.verdicts with held := before ++ after } } := by
  have hnone : ∀ x ∈ before, ¬HeldEntry.named h tag x = true := by simpa [HeldEntry.named] using hbefore
  have hnamed : HeldEntry.named h tag e = true := by simp [HeldEntry.named, hc, ht]
  rw [removeHeld, hl, List.eraseP_append_right _ hnone, List.eraseP_cons_of_pos hnamed]

end

/-! ### Verdicts -/

/-- The newest occurrence of a tag leaves the ring, the other tags keep their order (R88). -/
theorem dropNewest_of_newest {tag : Byte} {older newer : List Byte} (h : tag ∉ newer) :
    dropNewest tag (older ++ tag :: newer) = older ++ newer := by
  have herase : (older ++ tag :: newer).reverse.erase tag = (older ++ newer).reverse := by
    rw [List.reverse_append, List.reverse_cons, List.append_assoc, List.singleton_append,
      List.erase_append_right _ (mt List.mem_reverse.1 h), List.erase_cons_head, List.reverse_append]
  rw [dropNewest, herase, List.reverse_reverse]

section
variable {h : Chute} {tag : Byte} {s : State}

/-- A verdict that finds no entry but its tag in the ring is LATE (R88). -/
theorem verdictWithoutEntry_of_expired {older newer : List Byte}
    (hring : s.verdicts.rings.get h = older ++ tag :: newer) (hnew : tag ∉ newer) :
    verdictWithoutEntry h tag s = { s with
      verdicts := { s.verdicts with rings := s.verdicts.rings.set h (older ++ newer) }
      tally := s.tally.countChute h .verdictsLate 1 } := by
  have hmem : (s.verdicts.rings.get h).contains tag = true := by simp [hring]
  rw [verdictWithoutEntry, if_pos hmem, PerChute.modify, hring, dropNewest_of_newest hnew]
  rfl

/-- A verdict that finds neither an entry nor its tag in the ring is UNKNOWN (R88). -/
theorem verdictWithoutEntry_of_unknown (hring : tag ∉ s.verdicts.rings.get h) :
    verdictWithoutEntry h tag s = { s with tally := s.tally.countChute h .verdictsUnknown 1 } := by
  have hmem : ¬(s.verdicts.rings.get h).contains tag = true := by simpa using hring
  rw [verdictWithoutEntry, if_neg hmem]
  rfl

/-- In RUN and WIND-DOWN a verdict settles the entry it finds (R83 to R85, R159). -/
theorem takeVerdict_of_found (confirm : Bool) (hop : s.ctl.op = .run ∨ s.ctl.op = .windDown) {e : HeldEntry}
    (hf : findHeld h tag s = some e) : takeVerdict h tag confirm s = endWindDown
      (if confirm then placeAndCount e.chute e.cls e.prio e.plan (removeHeld h tag s)
       else countSighting e.chute e.cls .dismissed (removeHeld h tag s)) := by
  simp only [takeVerdict, if_pos hop, hf]

/-- In RUN and WIND-DOWN a verdict that finds no entry is left to the ring (R88). -/
theorem takeVerdict_of_not_found (confirm : Bool) (hop : s.ctl.op = .run ∨ s.ctl.op = .windDown)
    (hf : findHeld h tag s = none) : takeVerdict h tag confirm s = verdictWithoutEntry h tag s := by
  simp only [takeVerdict, if_pos hop, hf]

/-- A record that decodes to a verdict is taken as that verdict (R10, R15). -/
theorem exec_verdictRecord_of_verdict {bytes : List Byte} {confirm : Bool} (hs : Awake s)
    (hr : s.port.rx = .collecting []) (hd : decodeRecord bytes = .verdict h tag confirm) :
    exec (.verdictRecord bytes) s = .next (takeVerdict h tag confirm s) := by
  have hlen : bytes.length = 12 := length_of_decodeRecord (by simp [hd])
  rw [exec_verdictRecord hs, recordBytesIn_whole s hr hlen, completeRecord, hd]
  simp only [setRecordRx_self s hr]

end

/-- Settles O7: the record is one verdict, which goes by the operating state, the held entry and the ring, in that order. -/
theorem verdictSettlesItsEntry : Obligations.VerdictSettlesItsEntry := by
  intro s bytes h tag confirm hs hr hd
  rw [exec_verdictRecord_of_verdict hs hr hd]
  refine ⟨fun hop => ⟨fun before after e hl hbefore hc ht => ?_, fun hnew => ⟨fun older newer hring hnewest => ?_,
    fun hring => ?_⟩⟩, fun hrun hwind => ?_⟩
  · rw [takeVerdict_of_found confirm hop (findHeld_of_first hl hbefore hc ht), removeHeld_of_first hl hbefore hc ht, hc]
    rfl
  · rw [takeVerdict_of_not_found confirm hop (findHeld_eq_none.2 hnew), verdictWithoutEntry_of_expired hring hnewest]
  · rw [takeVerdict_of_not_found confirm hop (findHeld_eq_none.2 hnew), verdictWithoutEntry_of_unknown hring]
  · rw [takeVerdict, if_neg (not_or.2 ⟨hrun, hwind⟩)]
    rfl

/-! ### Deadlines -/

theorem exec_deadlineExpiry {s : State} (hs : Awake s) (h : Chute) (tag : Byte) :
    exec (.deadlineExpiry h tag) s = .next (deadlineExpiry h tag s) := live_awake s hs

/-- The expiry of an entry that is found goes by its deadline (R86, R159). -/
theorem deadlineExpiry_of_found {h : Chute} {tag : Byte} {s : State} {e : HeldEntry} (hf : findHeld h tag s = some e) :
    deadlineExpiry h tag s =
      if due e.deadline s.clk.now then endWindDown (expireSighting e (removeHeld h tag s)) else s := by
  simp only [deadlineExpiry, hf]

/-- The expiry of an entry that is not held does nothing. -/
theorem deadlineExpiry_of_not_found {h : Chute} {tag : Byte} {s : State} (hf : findHeld h tag s = none) :
    deadlineExpiry h tag s = s := by
  simp only [deadlineExpiry, hf]

/-- Settles O19: the entry found is the one named, and its expiry is the settling of R86. -/
theorem deadlineSettlesTheHeldEntry : Obligations.DeadlineSettlesTheHeldEntry := by
  refine ⟨fun s before after e hs hl hbefore => ?_, fun s h tag hs hnone => ?_⟩
  · rw [exec_deadlineExpiry hs, deadlineExpiry_of_found (findHeld_of_first hl hbefore rfl rfl)]
    refine ⟨fun hcome => ?_, fun htime => ?_⟩
    · rw [if_pos hcome, removeHeld_of_first hl hbefore rfl rfl]
      rfl
    · rw [if_neg (by simp [htime])]
  · rw [exec_deadlineExpiry hs, deadlineExpiry_of_not_found (findHeld_eq_none.2 hnone)]

end Sys2Proof.Machine
end

section
/-! The accounts of the firing records and the open counts (O57): what a block of queues keeps of them when one queue, or
every queue, is written (R94, R106). -/

namespace Sys2Proof.Machine

/-! ### Sums and members of a table of queues -/

/-- The OPENING and OPEN entries that a table of queues holds for a chute (R94). -/
def airUsed (t : Tab (List Entry)) (h : Chute) : Nat :=
  (t.map fun p => if chuteOf p.1 = h then p.2.countP Entry.holdsAir else 0).sum

/-- Some queue of the table has an entry with a WET record (R106). -/
def HoldsWet (t : Tab (List Entry)) : Prop := ∃ g, ∃ e ∈ Tab.get [] t g, e.isWet = true

section
variable {α : Type} {d : α} {t : Tab α} {i : Nat} {c : Nat → α → Nat}

theorem Tab.sum_insert (a : α) :
    ((Tab.insert i a t).map fun p => c p.1 p.2).sum = c i a + (t.map fun p => c p.1 p.2).sum := by
  induction t with
  | nil => simp [Tab.insert]
  | cons p t ih =>
    simp only [Tab.insert]
    split
    · simp
    · simp only [List.map_cons, List.sum_cons, ih]
      omega

theorem Tab.sum_erase (hc : ∀ i, c i d = 0) (h : t.Pairwise fun p q => p.1 < q.1) :
    ((Tab.erase t i).map fun p => c p.1 p.2).sum + c i (Tab.get d t i) = (t.map fun p => c p.1 p.2).sum := by
  induction t with
  | nil => simp [Tab.erase, hc]
  | cons p t ih =>
    obtain ⟨k, v⟩ := p
    obtain ⟨hbelow, hrest⟩ := List.pairwise_cons.1 h
    rw [Tab.erase_cons, Tab.get_cons]
    have ih := ih hrest
    split
    · subst i
      rw [Tab.get_of_below d t hbelow, hc] at ih
      simp only [List.map_cons, List.sum_cons]
      omega
    · simp only [List.map_cons, List.sum_cons]
      omega

/-- A sum over a canonical table after a write: the old value's part goes, the new one's comes. -/
theorem Tab.sum_set [DecidableEq α] (hc : ∀ i, c i d = 0) (h : Tab.wf d t = true) (a : α) :
    ((Tab.set d t i a).map fun p => c p.1 p.2).sum + c i (Tab.get d t i) =
      (t.map fun p => c p.1 p.2).sum + c i a := by
  have herase := Tab.sum_erase (i := i) hc ((Tab.wf_iff d t).1 h).1
  unfold Tab.set
  split
  · rename_i ha
    rw [ha, hc]
    exact herase
  · rw [Tab.sum_insert]
    omega

/-- A sum after a map over the listed values: what becomes the default counts nothing. -/
theorem Tab.sum_mapListed [DecidableEq α] (hc : ∀ i, c i d = 0) (f : Nat → α → α) (t : Tab α) :
    ((Tab.mapListed d f t).map fun p => c p.1 p.2).sum = (t.map fun p => c p.1 (f p.1 p.2)).sum := by
  unfold Tab.mapListed
  induction t with
  | nil => rfl
  | cons p t ih =>
    rw [List.map_cons, List.filter_cons]
    split
    · simp only [List.map_cons, List.sum_cons, ih]
    · rename_i hp
      have hp : f p.1 p.2 = d := by simpa using hp
      simp only [List.map_cons, List.sum_cons, ih, hp, hc, Nat.zero_add]

/-- What a canonical table lists is what it reads as. -/
theorem Tab.get_of_mem [DecidableEq α] (h : Tab.wf d t = true) {p : Nat × α} (hp : p ∈ t) : Tab.get d t p.1 = p.2 := by
  obtain ⟨hrising, -⟩ := (Tab.wf_iff d t).1 h
  clear h
  induction t with
  | nil => cases hp
  | cons q t ih =>
    obtain ⟨hbelow, hrest⟩ := List.pairwise_cons.1 hrising
    rw [Tab.get_cons]
    obtain rfl | hp := List.mem_cons.1 hp
    · rw [if_pos rfl]
    · rw [if_neg (hbelow p hp).ne]
      exact ih hp hrest

theorem Tab.mem_of_get_ne (h : Tab.get d t i ≠ d) : (i, Tab.get d t i) ∈ t := by
  induction t with
  | nil => exact absurd rfl h
  | cons q t ih =>
    rw [Tab.get_cons] at h ⊢
    split
    · subst i
      exact List.mem_cons_self
    · rename_i hi
      rw [if_neg hi] at h
      exact List.mem_cons_of_mem _ (ih h)

end

theorem anyWet_iff {s : State} (h : Tab.wf [] s.firing.queues = true) :
    anyWet s = true ↔ HoldsWet s.firing.queues := by
  simp only [anyWet, List.any_eq_true]
  constructor
  · rintro ⟨p, hp, e, he, hwet⟩
    exact ⟨p.1, e, by rwa [Tab.get_of_mem h hp], hwet⟩
  · rintro ⟨g, e, he, hwet⟩
    exact ⟨_, Tab.mem_of_get_ne (List.ne_nil_of_mem he), e, he, hwet⟩

theorem airUsed_set {t : Tab (List Entry)} (h : Tab.wf [] t = true) (g : Nat) (q : List Entry) (k : Chute) :
    airUsed (Tab.set [] t g q) k + (if chuteOf g = k then (Tab.get [] t g).countP Entry.holdsAir else 0) =
      airUsed t k + if chuteOf g = k then q.countP Entry.holdsAir else 0 :=
  Tab.sum_set (c := fun i l => if chuteOf i = k then List.countP Entry.holdsAir l else 0) (fun i => by simp) h q

theorem airUsed_mapListed (t : Tab (List Entry)) (u : List Entry → List Entry) (k : Chute) :
    airUsed (Tab.mapListed [] (fun _ => u) t) k =
      (t.map fun p => if chuteOf p.1 = k then (u p.2).countP Entry.holdsAir else 0).sum :=
  Tab.sum_mapListed (c := fun i l => if chuteOf i = k then List.countP Entry.holdsAir l else 0) (fun i => by simp) _ t

/-! ### A sound queue -/

/-- Exactly a started entry has a firing record (R94). -/
def Entry.Recorded (e : Entry) : Prop := e.firing.isSome = true ↔ e.phase ≠ .waiting

/-- The entries of a queue have identities of their own, given out already, and are recorded. -/
structure SoundQueue (next : Nat) (q : List Entry) : Prop where
  nodup : (q.map (·.ident)).Nodup
  issued : ∀ e ∈ q, e.ident < next
  recorded : ∀ e ∈ q, e.Recorded

/-- Two entries that the accounts do not tell apart: one identity, one phase, records of one kind. -/
structure SameRecord (a b : Entry) : Prop where
  ident : a.ident = b.ident
  phase : a.phase = b.phase
  kind : a.firing.map (·.kind) = b.firing.map (·.kind)

theorem isWet_iff (e : Entry) : e.isWet = true ↔ e.firing.map (·.kind) = some .wet := by
  unfold Entry.isWet
  cases e.firing <;> simp

theorem SameRecord.isWet {a b : Entry} (h : SameRecord a b) : a.isWet = b.isWet := by
  rw [Bool.eq_iff_iff, isWet_iff, isWet_iff, h.kind]

theorem SameRecord.holdsAir {a b : Entry} (h : SameRecord a b) : a.holdsAir = b.holdsAir := by
  rw [Entry.holdsAir, Entry.holdsAir, h.phase]

theorem SameRecord.recorded {a b : Entry} (h : SameRecord a b) (hb : b.Recorded) : a.Recorded := by
  unfold Entry.Recorded at hb ⊢
  have hsome := congrArg Option.isSome h.kind
  simp only [Option.isSome_map] at hsome
  rwa [hsome, h.phase]

/-- A record WET makes its entry a started one. -/
theorem Entry.Recorded.started {e : Entry} (h : e.Recorded) (hwet : e.isWet = true) : e.phase ≠ .waiting :=
  h.1 (by
    rw [isWet_iff] at hwet
    simpa using congrArg Option.isSome hwet)

theorem Entry.Recorded.wet_of_kind {e : Entry} (h : e.Recorded) (hs : e.phase ≠ .waiting) (hk : e.kind = .wet) :
    e.isWet = true := by
  obtain ⟨f, hf⟩ := Option.isSome_iff_exists.1 (h.2 hs)
  rw [isWet_iff, hf]
  simpa [Entry.kind, hf] using hk

section
variable {next : Nat} {q q' earlier later : List Entry} {e e' : Entry}

theorem soundQueue_nil : SoundQueue next [] := ⟨List.nodup_nil, nofun, nofun⟩

theorem SoundQueue.sublist (h : SoundQueue next q) (hs : q'.Sublist q) : SoundQueue next q' where
  nodup := h.nodup.sublist (hs.map _)
  issued e he := h.issued e (hs.subset he)
  recorded e he := h.recorded e (hs.subset he)

theorem SoundQueue.eq_of_ident (h : SoundQueue next q) (he : e ∈ q) (he' : e' ∈ q) (hi : e.ident = e'.ident) : e = e' :=
  List.inj_on_of_nodup_map h.nodup he he' hi

/-- Every entry changed to one of the same record. -/
theorem SoundQueue.map (h : SoundQueue next q) {f : Entry → Entry} (hf : ∀ e ∈ q, SameRecord (f e) e) :
    SoundQueue next (q.map f) where
  nodup := by
    have hidents : q.map ((·.ident) ∘ f) = q.map (·.ident) := List.map_congr_left fun e he => (hf e he).ident
    rw [List.map_map, hidents]
    exact h.nodup
  issued := by
    simp only [List.mem_map, forall_exists_index, and_imp, forall_apply_eq_imp_iff₂]
    exact fun e he => (hf e he).ident ▸ h.issued e he
  recorded := by
    simp only [List.mem_map, forall_exists_index, and_imp, forall_apply_eq_imp_iff₂]
    exact fun e he => (hf e he).recorded (h.recorded e he)

/-- One entry changed, its identity kept. -/
theorem SoundQueue.change (h : SoundQueue next (earlier ++ e :: later)) (hi : e'.ident = e.ident) (hr : e'.Recorded) :
    SoundQueue next (earlier ++ e' :: later) where
  nodup := by
    have := h.nodup
    simp only [List.map_append, List.map_cons] at this ⊢
    rwa [hi]
  issued x hx := by
    obtain hx | rfl | hx := by simpa using hx
    · exact h.issued x (by simp [hx])
    · exact hi ▸ h.issued e (by simp)
    · exact h.issued x (by simp [hx])
  recorded x hx := by
    obtain hx | rfl | hx := by simpa using hx
    · exact h.recorded x (by simp [hx])
    · exact hr
    · exact h.recorded x (by simp [hx])

/-- One entry come in with the next identity. -/
theorem SoundQueue.insert (h : SoundQueue next (earlier ++ later)) (hi : e.ident = next) (hr : e.Recorded) :
    SoundQueue (next + 1) (earlier ++ e :: later) where
  nodup := by
    have hnew : e.ident ∉ (earlier ++ later).map (·.ident) := by
      rw [List.mem_map]
      rintro ⟨x, hx, hxi⟩
      exact (h.issued x hx).ne (hxi.trans hi)
    have hperm : ((earlier ++ e :: later).map (·.ident)).Perm (e.ident :: (earlier ++ later).map (·.ident)) :=
      List.perm_middle.map _
    exact hperm.nodup_iff.2 (List.nodup_cons.2 ⟨hnew, h.nodup⟩)
  issued x hx := by
    obtain rfl | hx := List.mem_cons.1 (List.perm_middle.mem_iff.1 hx)
    · omega
    · exact (h.issued x hx).trans (Nat.lt_succ_self _)
  recorded x hx := by
    obtain rfl | hx := List.mem_cons.1 (List.perm_middle.mem_iff.1 hx)
    · exact hr
    · exact h.recorded x hx

end

/-! ### Sound firings -/

/-- The accounts of a block of queues, all but that a part going dry has a WET record (R94, R106). -/
structure SoundFirings (f : Firings) (dry : Bool) : Prop where
  wf : Tab.wf [] f.queues = true
  queue : ∀ g, SoundQueue f.nextIdent (Tab.get [] f.queues g)
  air : ∀ h, f.openCount.get h = airUsed f.queues h
  dry : dry = true → ¬HoldsWet f.queues

/-- The air that one entry holds. -/
def Entry.share (e : Entry) : Nat := if e.holdsAir = true then 1 else 0

theorem countP_holdsAir_split (earlier later : List Entry) (e : Entry) :
    (earlier ++ e :: later).countP Entry.holdsAir = (earlier ++ later).countP Entry.holdsAir + e.share := by
  rw [List.countP_append, List.countP_cons, List.countP_append, Entry.share]
  omega

section
variable {f : Firings} {dry : Bool} {g : Nat} {q : List Entry} {n m : Nat} {e : Entry}

theorem soundFirings_empty (next : Nat) (dry : Bool) : SoundFirings ⟨[], PerChute.const 0, next⟩ dry where
  wf := rfl
  queue _ := soundQueue_nil
  air h := PerChute.get_const 0 h
  dry _ := fun ⟨_, _, he, _⟩ => List.not_mem_nil he

/-- A sound queue put in the place of one, the open count moved by the air that it holds more or less. -/
theorem SoundFirings.write (h : SoundFirings f dry) (hq : SoundQueue m q) (hm : f.nextIdent ≤ m)
    (hn : n + (Tab.get [] f.queues g).countP Entry.holdsAir =
      f.openCount.get (chuteOf g) + q.countP Entry.holdsAir)
    (hdry : dry = true → ∀ e ∈ q, e.isWet = false) :
    SoundFirings ⟨Tab.set [] f.queues g q, f.openCount.set (chuteOf g) n, m⟩ dry where
  wf := Tab.wf_set h.wf g q
  queue g' := by
    by_cases hg : g' = g
    · subst hg
      rwa [Tab.get_set_same]
    · rw [Tab.get_set_other _ _ _ hg]
      obtain ⟨hnodup, hissued, hrecorded⟩ := h.queue g'
      exact ⟨hnodup, fun e he => (hissued e he).trans_le hm, hrecorded⟩
  air k := by
    have hset := airUsed_set h.wf g q k
    have hair := h.air k
    by_cases hk : chuteOf g = k
    · subst hk
      simp only [if_true] at hset
      simp only [PerChute.get_set_same]
      omega
    · simp only [if_neg hk] at hset
      simp only [PerChute.get_set_other _ _ _ _ (Ne.symm hk)]
      omega
  dry hd := by
    rintro ⟨g', e, he, hwet⟩
    by_cases hg : g' = g
    · subst hg
      rw [Tab.get_set_same] at he
      rw [hdry hd e he] at hwet
      cases hwet
    · rw [Tab.get_set_other _ _ _ hg] at he
      exact h.dry hd ⟨g', e, he, hwet⟩

/-- A queue written that holds as much air as before. -/
theorem SoundFirings.write_kept (h : SoundFirings f dry) (hq : SoundQueue m q) (hm : f.nextIdent ≤ m)
    (hair : q.countP Entry.holdsAir = (Tab.get [] f.queues g).countP Entry.holdsAir)
    (hdry : dry = true → ∀ e ∈ q, e.isWet = false) :
    SoundFirings ⟨Tab.set [] f.queues g q, f.openCount, m⟩ dry := by
  have := h.write (n := f.openCount.get (chuteOf g)) hq hm (by rw [hair]) hdry
  rwa [PerChute.set_get] at this

theorem SoundFirings.not_wet (h : SoundFirings f dry) (hd : dry = true) (he : e ∈ Tab.get [] f.queues g) :
    e.isWet = false := by
  rw [← Bool.not_eq_true]
  exact fun hwet => h.dry hd ⟨g, e, he, hwet⟩

/-- An entry that holds air is counted in its chute's open count. -/
theorem SoundFirings.share_le (h : SoundFirings f dry) (he : e ∈ Tab.get [] f.queues g) :
    e.share ≤ f.openCount.get (chuteOf g) := by
  obtain ⟨earlier, later, hq⟩ := List.append_of_mem he
  have hset := airUsed_set h.wf g [] (chuteOf g)
  rw [hq, countP_holdsAir_split, if_pos rfl, if_pos rfl, List.countP_nil] at hset
  rw [h.air]
  omega

/-- An entry changed, its identity kept, the open count moved with its air. -/
theorem SoundFirings.change (h : SoundFirings f dry) (he : e ∈ Tab.get [] f.queues g) {u : Entry → Entry}
    (hi : (u e).ident = e.ident) (hr : (u e).Recorded)
    (hn : n + e.share = f.openCount.get (chuteOf g) + (u e).share) (hdry : dry = true → (u e).isWet = false) :
    SoundFirings ⟨Tab.set [] f.queues g ((Tab.get [] f.queues g).map fun x => if x.ident = e.ident then u x else x),
      f.openCount.set (chuteOf g) n, f.nextIdent⟩ dry := by
  have hsound := h.queue g
  have hnot := fun (hd : dry = true) x => h.not_wet hd (g := g) (e := x)
  obtain ⟨earlier, later, hq⟩ := List.append_of_mem he
  rw [hq] at hsound hnot
  rw [hq, map_ident u hsound.nodup]
  refine h.write (hsound.change hi hr) le_rfl ?_ fun hd x hx => ?_
  · rw [hq, countP_holdsAir_split, countP_holdsAir_split]
    omega
  · obtain hx | rfl | hx := by simpa using hx
    · exact hnot hd x (by simp [hx])
    · exact hdry hd
    · exact hnot hd x (by simp [hx])

/-- An entry gone from its queue, its air with it. -/
theorem SoundFirings.remove (h : SoundFirings f dry) (he : e ∈ Tab.get [] f.queues g)
    (hn : n + e.share = f.openCount.get (chuteOf g)) :
    SoundFirings ⟨Tab.set [] f.queues g ((Tab.get [] f.queues g).filter fun x => x.ident != e.ident),
      f.openCount.set (chuteOf g) n, f.nextIdent⟩ dry := by
  have hsound := h.queue g
  refine h.write (hsound.sublist List.filter_sublist) le_rfl ?_ fun hd x hx => h.not_wet hd (List.mem_filter.1 hx).1
  obtain ⟨earlier, later, hq⟩ := List.append_of_mem he
  rw [hq] at hsound
  rw [hq, filter_ident hsound.nodup, countP_holdsAir_split]
  omega

/-- Entries changed to ones of the same record. -/
theorem SoundFirings.map (h : SoundFirings f dry) {u : Entry → Entry}
    (hu : ∀ e ∈ Tab.get [] f.queues g, SameRecord (u e) e) :
    SoundFirings ⟨Tab.set [] f.queues g ((Tab.get [] f.queues g).map u), f.openCount, f.nextIdent⟩ dry := by
  refine h.write_kept ((h.queue g).map hu) le_rfl ?_ fun hd x hx => ?_
  · rw [List.countP_map]
    exact List.countP_congr fun e he => by rw [Function.comp_apply, (hu e he).holdsAir]
  · obtain ⟨e, he, rfl⟩ := List.mem_map.1 hx
    rw [(hu e he).isWet]
    exact h.not_wet hd he

/-- Every queue mapped to a sound one that holds no new WET record. -/
theorem SoundFirings.mapQueues (h : SoundFirings f dry) {u : List Entry → List Entry} {c : PerChute Nat} (hnil : u [] = [])
    (hu : ∀ q, SoundQueue f.nextIdent q → SoundQueue f.nextIdent (u q) ∧
      ((∃ e ∈ u q, e.isWet = true) → ∃ e ∈ q, e.isWet = true))
    (hc : ∀ k, c.get k = (f.queues.map fun p => if chuteOf p.1 = k then (u p.2).countP Entry.holdsAir else 0).sum) :
    SoundFirings ⟨Tab.mapListed [] (fun _ => u) f.queues, c, f.nextIdent⟩ dry where
  wf := Tab.wf_mapListed h.wf fun _ => u
  queue g := by
    rw [Tab.get_mapListed h.wf _ g hnil]
    exact (hu _ (h.queue g)).1
  air k := (hc k).trans (airUsed_mapListed _ _ _).symm
  dry hd := by
    rintro ⟨g, hwet⟩
    rw [Tab.get_mapListed h.wf _ g hnil] at hwet
    exact h.dry hd ⟨g, (hu _ (h.queue g)).2 hwet⟩

end

end Sys2Proof.Machine
end

section
/-! The accounts of the firing records, operation by operation (O57): what starts, cuts, ends, grants, completions and
removals keep of them (R71 to R77, R94, R97 to R105), and what is concluded from them (R106). -/

namespace Sys2Proof.Machine

/-- The accounts of a state, all but that a part going dry has a WET record. -/
def FiringsSound (s : State) : Prop := SoundFirings s.firing s.ctl.dry

theorem firingsAccounted_iff (s : State) :
    FiringsAccounted s ↔ FiringsSound s ∧ (s.ctl.goingDry = true → HoldsWet s.firing.queues) := by
  constructor
  · rintro ⟨hwf, hqueue, hair, hdry, hgoing⟩
    have hwet := anyWet_iff hwf
    refine ⟨⟨hwf, fun g => ?_, hair, fun hd hw => ?_⟩, fun hg => hwet.1 (hgoing hg)⟩
    · obtain ⟨hnodup, hentry⟩ := hqueue g
      exact ⟨hnodup, fun e he => (hentry e he).1, fun e he => (hentry e he).2⟩
    · exact Bool.false_ne_true ((hdry hd).symm.trans (hwet.2 hw))
  · rintro ⟨⟨hwf, hqueue, hair, hdry⟩, hgoing⟩
    have hwet := anyWet_iff hwf
    refine ⟨hwf, fun g => ?_, hair, fun hd => ?_, fun hg => hwet.2 (hgoing hg)⟩
    · obtain ⟨hnodup, hissued, hrecorded⟩ := hqueue g
      exact ⟨hnodup, fun e he => ⟨hissued e he, hrecorded e he⟩⟩
    · exact Bool.eq_false_iff.2 fun hw => hdry hd (hwet.1 hw)

theorem FiringsAccounted.sound {s : State} (h : FiringsAccounted s) : FiringsSound s := ((firingsAccounted_iff s).1 h).1

/-- With every queue empty the accounts are right, unless the part is going dry. -/
theorem firingsAccounted_of_empty {s : State} (hq : s.firing.queues = []) (hc : s.firing.openCount = PerChute.const 0)
    (hg : s.ctl.goingDry = false) : FiringsAccounted s := by
  refine (firingsAccounted_iff s).2 ⟨?_, fun h => absurd (hg.symm.trans h) Bool.false_ne_true⟩
  have : s.firing = ⟨[], PerChute.const 0, s.firing.nextIdent⟩ := by rw [← hq, ← hc]
  rw [FiringsSound, this]
  exact soundFirings_empty _ _

/-- Queues whose WET records are where they were keep a part that goes dry going. -/
theorem FiringsAccounted.of_sound {s t : State} (h : FiringsAccounted s) (ht : FiringsSound t)
    (hg : t.ctl.goingDry = s.ctl.goingDry) (hw : HoldsWet s.firing.queues → HoldsWet t.firing.queues) :
    FiringsAccounted t := by
  obtain ⟨-, hgoing⟩ := (firingsAccounted_iff s).1 h
  exact (firingsAccounted_iff t).2 ⟨ht, fun hd => hw (hgoing (hg ▸ hd))⟩

/-! ### Conclusions and resets -/

theorem warmReset_accounted (s : State) : FiringsAccounted (warmReset s) := by
  rw [warmReset_eq]
  exact firingsAccounted_of_empty rfl rfl rfl

theorem endWindDown_keeps_accounts : Keeps FiringsAccounted endWindDown := by
  intro s h
  obtain ⟨he, -⟩ | ⟨he, -⟩ := endWindDown_cases s
  · rwa [he]
  · rw [he]
    exact warmReset_accounted s

theorem takeOwedReset_keeps_accounts : Keeps FiringsAccounted takeOwedReset := by
  intro s h
  unfold takeOwedReset
  split
  · exact warmReset_accounted s
  · exact h

theorem enterState_keeps_accounts (op : OpState) : Keeps FiringsAccounted (enterState op) := by
  intro s h
  rw [enterState_eq]
  exact h

theorem concludePurge_keeps_accounts : Keeps FiringsAccounted concludePurge := by
  intro s h
  unfold concludePurge
  split
  · exact h
  · simp only
    split
    · exact enterState_keeps_accounts .standby { s with ctl := _ } h
    · exact h

/-- Going dry ends with the last WET record, so that after its end is judged the accounts are right (R106). -/
theorem concludeDry_accounts {s : State} (h : FiringsSound s) : FiringsAccounted (concludeDry s) := by
  have hwet := anyWet_iff h.wf
  rw [concludeDry_eq, firingsAccounted_iff]
  by_cases hends : s.ctl.goingDry = true ∧ anyWet s = false
  · simp only [if_pos hends]
    have hnone : ¬HoldsWet s.firing.queues := fun hw => Bool.false_ne_true (hends.2.symm.trans (hwet.2 hw))
    exact ⟨⟨h.wf, h.queue, h.air, fun _ => hnone⟩, nofun⟩
  · simp only [if_neg hends]
    refine ⟨h, fun hg => hwet.1 ?_⟩
    rw [← Bool.not_eq_false]
    exact fun hw => hends ⟨hg, hw⟩

/-- What is judged when entries have left their queues makes the accounts right (R106, R155, R159). -/
theorem conclude_accounts {s : State} (h : FiringsSound s) : FiringsAccounted (conclude s) :=
  endWindDown_keeps_accounts _ (concludePurge_keeps_accounts _ (concludeDry_accounts h))

/-! ### Entries of a queue -/

theorem mem_of_findEntry {s : State} {g ident : Nat} {e : Entry} (h : findEntry s g ident = some e) :
    e ∈ s.queue g ∧ e.ident = ident :=
  ⟨List.mem_of_find?_eq_some h, by simpa using List.find?_some h⟩

/-- An entry changed to one of the same record, if it is in its queue at all. -/
theorem updateEntry_keeps_sound (g ident : Nat) {u : Entry → Entry} (hu : ∀ e, SameRecord (u e) e) :
    Keeps FiringsSound (updateEntry g ident u) := by
  intro s h
  refine SoundFirings.map h fun e _ => ?_
  split
  · exact hu e
  · exact ⟨rfl, rfl, rfl⟩

/-- A firing record whose requests alone change stays WET or not. -/
theorem isWet_of_firing {x : Entry} (e : Entry) {u : FiringRecord → FiringRecord} (hx : x.firing = e.firing.map u)
    (hu : ∀ f, (u f).kind = f.kind) : x.isWet = e.isWet := by
  rw [Bool.eq_iff_iff, isWet_iff, isWet_iff, hx]
  cases e.firing <;> simp [hu]

/-- An entry whose record's requests alone change keeps its record's kind. -/
theorem sameRecord_of_firing (e : Entry) {u : FiringRecord → FiringRecord} (hu : ∀ f, (u f).kind = f.kind) :
    SameRecord { e with firing := e.firing.map u } e where
  ident := rfl
  phase := rfl
  kind := by cases hf : e.firing <;> simp [hu]

/-- An entry without air removed: no open count changes (R71, R72). -/
theorem removeEntry_sound_of_airless {s : State} {g : Nat} {e : Entry} (h : FiringsSound s) (he : e ∈ s.queue g)
    (hair : e.holdsAir = false) : FiringsSound (removeEntry g e.ident s) := by
  have := SoundFirings.remove (n := s.firing.openCount.get (chuteOf g)) h he (by simp [Entry.share, hair])
  rwa [PerChute.set_get] at this

/-- An entry that leaves its queue gives up the air it holds. -/
theorem removeEntry_sound_of_air {s : State} {g : Nat} {e : Entry} (h : FiringsSound s) (he : e ∈ s.queue g)
    (hair : e.holdsAir = true) :
    FiringsSound (removeEntry g e.ident (s.setOpenCount (chuteOf g) (s.openCount (chuteOf g) - 1))) := by
  have hshare : e.share = 1 := if_pos hair
  have hle := SoundFirings.share_le h he
  refine SoundFirings.remove h he ?_
  show s.firing.openCount.get (chuteOf g) - 1 + e.share = _
  omega

/-- An entry that holds air becomes CLOSING and gives it up. -/
theorem updateEntry_sound_of_closing {s : State} {g : Nat} {e : Entry} {u : Entry → Entry} (h : FiringsSound s)
    (he : e ∈ s.queue g) (hair : e.holdsAir = true) (hi : (u e).ident = e.ident) (hp : (u e).phase = .closing)
    (hsome : (u e).firing.isSome = true) (hwet : (u e).isWet = true → e.isWet = true) :
    FiringsSound (updateEntry g e.ident u (s.setOpenCount (chuteOf g) (s.openCount (chuteOf g) - 1))) := by
  have hshare : e.share = 1 := if_pos hair
  have hgone : (u e).share = 0 := by simp [Entry.share, Entry.holdsAir, hp]
  have hle := SoundFirings.share_le h he
  refine SoundFirings.change h he hi (by simp [Entry.Recorded, hp, hsome]) ?_ fun hd => ?_
  · show s.firing.openCount.get (chuteOf g) - 1 + e.share = _
    omega
  · rw [← Bool.not_eq_true]
    exact fun hw => Bool.false_ne_true ((h.not_wet hd he).symm.trans (hwet hw))

theorem holdsAir_iff (e : Entry) : e.holdsAir = true ↔ e.phase = .opening ∨ e.phase = .opened := by
  simp [Entry.holdsAir]

theorem started_of_holdsAir {e : Entry} (h : e.holdsAir = true) : e.phase ≠ .waiting := by
  obtain h | h := (holdsAir_iff e).1 h <;> simp [h]

theorem holdsAir_of_waiting {e : Entry} (h : e.phase = .waiting) : e.holdsAir = false := by
  simp [Entry.holdsAir, h]

/-! ### Removals (4.3) -/

theorem abandonWaiting_keeps_sound (g : Nat) : Keeps FiringsSound (abandonWaiting g) := by
  intro s h
  refine SoundFirings.write_kept h ((h.queue g).sublist List.filter_sublist) le_rfl ?_ fun hd e he =>
    h.not_wet hd (List.mem_filter.1 he).1
  refine (List.countP_filter).trans (List.countP_congr fun e _ => ?_)
  simp only [Bool.and_eq_true, bne_iff_ne, ne_eq, and_iff_left_iff_imp]
  exact started_of_holdsAir

theorem makeFailed_keeps_sound (g : Nat) (cause : FailureCause) : Keeps FiringsSound (makeFailed g cause) := by
  intro s h
  unfold makeFailed
  simp only
  split
  · exact h
  · split
    · exact abandonWaiting_keeps_sound g (setNotice _ _ (s.setNozzle g _)) h
    · exact h

/-- WAITING entries of an origin abandoned: no count and no WET record is touched (R76). -/
theorem abandonOrigin_keeps_accounts (o : Origin) : Keeps FiringsAccounted (abandonOrigin o) := by
  intro s h
  have hsound := h.sound
  have hkept : ∀ e : Entry, e.phase ≠ .waiting → (!(e.phase == .waiting && e.origin == o)) = true := by simp +contextual
  refine h.of_sound (SoundFirings.mapQueues (u := List.filter fun e => !(e.phase == .waiting && e.origin == o)) hsound rfl
    (fun q hq => ⟨hq.sublist List.filter_sublist, ?_⟩) fun k => ?_) rfl ?_
  · rintro ⟨e, he, hwet⟩
    exact ⟨e, (List.mem_filter.1 he).1, hwet⟩
  · refine (hsound.air k).trans (congrArg List.sum (List.map_congr_left fun p _ => ?_))
    split
    · refine ((List.countP_filter).trans (List.countP_congr fun e _ => ?_)).symm
      rw [Bool.and_eq_true, and_iff_left_iff_imp]
      exact fun hair => hkept e (started_of_holdsAir hair)
    · rfl
  · rintro ⟨g, e, he, hwet⟩
    refine ⟨g, e, ?_, hwet⟩
    show e ∈ (abandonOrigin o s).queue g
    rw [queue_abandonOrigin hsound.wf o g, List.mem_filter]
    exact ⟨he, hkept e (((hsound.queue g).recorded e he).started hwet)⟩

/-- What the wind-down limit leaves of a recorded entry: its identity, CLOSING, with the record that it had or a WET one in
the place of a WET one (R77, R105). -/
theorem reduceEntry_record {e x : Entry} (hr : e.Recorded) (h : reduceEntry e = some x) :
    x.ident = e.ident ∧ x.phase = .closing ∧ x.firing.isSome = true ∧ (x.isWet = true → e.isWet = true) := by
  have hphase := reduceEntry_phase h
  unfold reduceEntry at h
  split at h
  · cases h
  · cases h
    exact ⟨rfl, hphase, hr.2 (by simp [hphase]), id⟩
  all_goals
    split at h
    · cases h
    · cases h
      refine ⟨rfl, rfl, rfl, fun _ => hr.wet_of_kind ?_ ‹_›⟩
      simp [*]

theorem reduceQueues_keeps_sound : Keeps FiringsSound reduceQueues := by
  intro s h
  have hrecord : ∀ q, SoundQueue s.firing.nextIdent q → ∀ x ∈ q.filterMap reduceEntry, ∃ e ∈ q,
      x.ident = e.ident ∧ x.phase = .closing ∧ x.firing.isSome = true ∧ (x.isWet = true → e.isWet = true) := by
    intro q hq x hx
    obtain ⟨e, he, hex⟩ := List.mem_filterMap.1 hx
    exact ⟨e, he, reduceEntry_record (hq.recorded e he) hex⟩
  refine SoundFirings.mapQueues (u := List.filterMap reduceEntry) h rfl (fun q hq => ⟨⟨?_, ?_, ?_⟩, ?_⟩) fun k => ?_
  · have hnodup := List.pairwise_map.1 hq.nodup
    refine List.pairwise_map.2 (List.pairwise_filterMap.2 ?_)
    refine hnodup.imp_of_mem fun he he' hne x hx x' hx' hi => hne ?_
    obtain ⟨hi1, -⟩ := reduceEntry_record (hq.recorded _ he) hx
    obtain ⟨hi2, -⟩ := reduceEntry_record (hq.recorded _ he') hx'
    rw [← hi1, ← hi2, hi]
  · intro x hx
    obtain ⟨e, he, hi, -⟩ := hrecord q hq x hx
    exact hi ▸ hq.issued e he
  · intro x hx
    obtain ⟨e, he, -, hp, hsome, -⟩ := hrecord q hq x hx
    simp [Entry.Recorded, hp, hsome]
  · rintro ⟨x, hx, hwet⟩
    obtain ⟨e, he, -, -, -, hkept⟩ := hrecord q hq x hx
    exact ⟨e, he, hkept hwet⟩
  · rw [PerChute.get_const]
    refine (List.sum_eq_zero fun n hn => ?_).symm
    obtain ⟨p, hp, rfl⟩ := List.mem_map.1 hn
    split
    · refine List.countP_eq_zero.2 fun x hx => ?_
      obtain ⟨e, he, hex⟩ := List.mem_filterMap.1 hx
      simp [Entry.holdsAir, reduceEntry_phase hex]
    · rfl

/-! ### Cuts, starts and ends -/

/-- A holder of air closed before its time gives its air up (R105). -/
theorem closeEarly_sound {s : State} {g : Nat} {e : Entry} (h : FiringsSound s) (he : e ∈ s.queue g)
    (hair : e.holdsAir = true) : FiringsSound (closeEarly g e s) := by
  cases hk : e.kind with
  | dry =>
    rw [closeEarly_of_dry hk]
    exact removeEntry_sound_of_air h he hair
  | wet =>
    have hwet := ((SoundFirings.queue h g).recorded e he).wet_of_kind (started_of_holdsAir hair) hk
    rw [closeEarly_of_wet hk]
    exact updateEntry_sound_of_closing (u := fun x => { x with
      phase := .closing
      firing := some ⟨.wet, if (e.firing.map (·.openReq)).getD .none = .waiting then .none
        else (e.firing.map (·.openReq)).getD .none, .waiting⟩ }) h he hair rfl rfl rfl fun _ => hwet

/-- A cut leaves every other entry in its queue. -/
theorem mem_queue_closeEarly {s : State} {g g' : Nat} {v x : Entry} (hx : x ∈ s.queue g)
    (hne : g = g' → x.ident ≠ v.ident) : x ∈ (closeEarly g' v s).queue g := by
  have hqueue : (closeEarly g' v s).queue g = s.queue g ∨ (g = g' ∧
      ((closeEarly g' v s).queue g = (s.queue g).filter (fun e => e.ident != v.ident) ∨
        ∃ u : Entry → Entry, (closeEarly g' v s).queue g =
          (s.queue g).map fun e => if e.ident = v.ident then u e else e)) := by
    by_cases hg : g = g'
    · subst hg
      refine .inr ⟨rfl, ?_⟩
      cases hk : v.kind with
      | dry =>
        rw [closeEarly_of_dry hk]
        exact .inl (Tab.get_set_same _ _ _ _)
      | wet =>
        rw [closeEarly_of_wet hk]
        exact .inr ⟨_, Tab.get_set_same _ _ _ _⟩
    · refine .inl ?_
      cases hk : v.kind with
      | dry =>
        rw [closeEarly_of_dry hk]
        exact Tab.get_set_other _ _ _ hg
      | wet =>
        rw [closeEarly_of_wet hk]
        exact Tab.get_set_other _ _ _ hg
  obtain hq | ⟨hg, hq | ⟨u, hq⟩⟩ := hqueue
  · rwa [hq]
  · rw [hq, List.mem_filter]
    exact ⟨hx, by simpa using hne hg⟩
  · rw [hq, List.mem_map]
    exact ⟨x, hx, if_neg (hne hg)⟩

/-- A WAITING entry admitted takes its share of air, and a WET record only where the part is neither dry nor going dry (R94,
R97). -/
theorem admitEntry_sound {s : State} {g : Nat} {x : Entry} (h : FiringsSound s) (hx : x ∈ s.queue g)
    (hw : x.phase = .waiting) : FiringsSound (admitEntry g x s) := by
  rw [admitEntry_eq]
  have hshare : x.share = 0 := by simp [Entry.share, holdsAir_of_waiting hw]
  refine SoundFirings.change (u := Entry.admitted (s.ctl.goingDry || s.ctl.dry)) h hx ?_ ?_ ?_ fun hd => ?_
  · cases s.ctl.goingDry || s.ctl.dry <;> rfl
  · cases s.ctl.goingDry || s.ctl.dry <;> simp [Entry.Recorded, Entry.admitted]
  · rw [hshare]
    cases s.ctl.goingDry || s.ctl.dry <;> rfl
  · have hd : s.ctl.dry = true := hd
    simp [Entry.admitted, Entry.isWet, hd]

theorem starveEntry_sound {s : State} {g : Nat} {x : Entry} (h : FiringsSound s) (hx : x ∈ s.queue g)
    (hw : x.phase = .waiting) : FiringsSound (starveEntry g x s) :=
  removeEntry_sound_of_airless h hx (holdsAir_of_waiting hw)

/-- A fold that keeps the better of two ends in one of those it saw. -/
theorem foldl_mem {α : Type} (better : α → α → Bool) (l : List α) (a : α) :
    l.foldl (fun b x => if better x b then x else b) a ∈ a :: l := by
  induction l generalizing a with
  | nil => exact List.mem_singleton_self a
  | cons c l ih =>
    rw [List.foldl_cons]
    obtain he | hl := List.mem_cons.1 (ih (if better c a then c else a))
    · rw [he]
      split <;> simp
    · simp [hl]

/-- The victim is an entry of its queue and holds air (R98). -/
theorem victim_holds {s : State} (h : FiringsSound s) {k : Chute} {v : Nat × Entry} (hv : victim (holders s k) = some v) :
    v.2 ∈ s.queue v.1 ∧ v.2.holdsAir = true := by
  have hmem : v ∈ holders s k := by
    unfold victim at hv
    split at hv
    · cases hv
    · rename_i hl
      cases hv
      rw [hl]
      exact foldl_mem _ _ _
  obtain ⟨p, hp, hv⟩ := List.mem_flatMap.1 hmem
  split at hv
  · obtain ⟨e, he, rfl⟩ := List.mem_map.1 hv
    rw [List.mem_filter] at he
    exact ⟨by rw [State.queue, Tab.get_of_mem h.wf hp]; exact he.1, he.2⟩
  · cases hv

/-- A start, whatever the arbiter makes of it, keeps the accounts (R97 to R99). -/
theorem judgeStart_sound {s : State} {g : Nat} {x : Entry} (h : FiringsSound s) (hx : x ∈ s.queue g)
    (hw : x.phase = .waiting) : FiringsSound (judgeStart g x s) := by
  have hstarve := starveEntry_sound h hx hw
  unfold judgeStart arbitrate
  simp only
  split
  · exact admitEntry_sound h hx hw
  · split
    · split
      · rename_i v hv
        obtain ⟨hmem, hair⟩ := victim_holds h hv
        have hcut : FiringsSound (closeEarly v.1 v.2 (countChute (chuteOf g) .cut s)) :=
          closeEarly_sound (s := countChute (chuteOf g) .cut s) h hmem hair
        have hother : g = v.1 → x.ident ≠ v.2.ident := by
          intro hg hi
          rw [(SoundFirings.queue h g).eq_of_ident hx (hg ▸ hmem) hi] at hw
          exact started_of_holdsAir hair hw
        split
        · exact admitEntry_sound hcut (mem_queue_closeEarly (s := countChute (chuteOf g) .cut s) hx hother) hw
        · exact hstarve
      · exact hstarve
    · exact hstarve

/-- An OPEN entry that ends gives up its air (R103). -/
theorem endEntry_sound {s : State} {g : Nat} {e : Entry} (h : FiringsSound s) (he : e ∈ s.queue g)
    (hp : e.phase = .opened) : FiringsSound (endEntry g e s) := by
  have hair : e.holdsAir = true := (holdsAir_iff e).2 (.inr hp)
  have hrec := (SoundFirings.queue h g).recorded e he
  unfold endEntry
  simp only
  split
  · rename_i hk
    exact updateEntry_sound_of_closing h he hair rfl rfl
      ((Option.isSome_map).trans (hrec.2 (started_of_holdsAir hair))) fun _ =>
        hrec.wet_of_kind (started_of_holdsAir hair) hk
  · exact removeEntry_sound_of_air h he hair

/-! ### Grants and completions -/

/-- The grants keep the accounts: a late OPEN loses its entry with the air that it holds (R100, R115). -/
theorem grantLoop_keeps_sound (k : Chute) (fuel : Nat) : Keeps FiringsSound (grantLoop k fuel) := by
  induction fuel with
  | zero => exact fun _ h => h
  | succ fuel ih =>
    intro s h
    unfold grantLoop
    split
    · exact h
    · rename_i r _
      have ht : FiringsSound (takeRequest k r s) := h
      simp only
      split
      · split
        · exact ih _ ht
        · rename_i e he
          obtain ⟨hmem, -⟩ := mem_of_findEntry he
          split
          · exact ih _ ht
          · rename_i hp
            split
            · exact ih _ (removeEntry_sound_of_air ht hmem ((holdsAir_iff e).2 (.inl (not_not.1 hp))))
            · refine updateEntry_keeps_sound _ _ (fun e => ?_) (takeRequest k r s) ht
              exact sameRecord_of_firing e fun _ => rfl
      · refine updateEntry_keeps_sound _ _ (fun e => ?_) (takeRequest k r s) ht
        exact sameRecord_of_firing e fun _ => rfl

theorem grantNext_keeps_sound (k : Chute) : Keeps FiringsSound (grantNext k) := by
  intro s h
  unfold grantNext
  simp only
  split
  · exact h
  · split
    · exact h
    · exact grantLoop_keeps_sound k _ s h

theorem grantAll_keeps_sound : Keeps FiringsSound grantAll := fun s h =>
  grantNext_keeps_sound 3 _ (grantNext_keeps_sound 2 _ (grantNext_keeps_sound 1 _ (grantNext_keeps_sound 0 s h)))

theorem freeBus_keeps_sound (k : Chute) : Keeps FiringsSound (freeBus k) :=
  fun s h => grantNext_keeps_sound k (s.setBus k _) h

theorem nozzleEffect_keeps_sound (t : Transaction) (result : LastResult) (m : Nat) :
    Keeps FiringsSound (nozzleEffect t result m) := by
  intro s h
  unfold nozzleEffect
  split
  · exact h
  · unfold openNoReply
    simp only
    split
    · exact makeFailed_keeps_sound _ _ (s.setNozzle _ _) h
    · exact h
  · exact makeFailed_keeps_sound _ _ (s.setNozzle _ _) h
  · exact h
  · exact makeFailed_keeps_sound _ _ (s.setNozzle _ _) h
  · exact makeFailed_keeps_sound _ _ (s.setNozzle _ _) h
  · exact h

/-- An OPENING entry whose OPEN completes keeps its air, or is over already and gives it up (R101). -/
theorem openCompleted_sound {s : State} {g : Nat} {e : Entry} (h : FiringsSound s) (he : e ∈ s.queue g)
    (hp : e.phase = .opening) : FiringsSound (openCompleted g e s) := by
  have hair : e.holdsAir = true := (holdsAir_iff e).2 (.inl hp)
  have hsome := ((SoundFirings.queue h g).recorded e he).2 (started_of_holdsAir hair)
  unfold openCompleted
  simp only
  split
  · refine updateEntry_sound_of_closing h he hair rfl rfl ((Option.isSome_map).trans hsome) fun hw => ?_
    rwa [isWet_of_firing e (u := fun f => { f with openReq := .complete, closeReq := .waiting }) rfl fun _ => rfl] at hw
  · have hshare : e.share = 1 := if_pos hair
    have := SoundFirings.change (n := s.firing.openCount.get (chuteOf g)) h he
      (u := fun x => { x with phase := .opened, firing := x.firing.map fun f => { f with openReq := .complete } }) rfl
      (by simp [Entry.Recorded, hsome]) (by rw [hshare]; rfl) fun hd => by
        rw [isWet_of_firing e (u := fun f => { f with openReq := .complete }) rfl fun _ => rfl]
        exact h.not_wet hd he
    rwa [PerChute.set_get] at this

theorem dispatchEffect_keeps_sound (t : Transaction) (result : LastResult) :
    Keeps FiringsSound (dispatchEffect t result) := by
  intro s h
  unfold dispatchEffect
  split
  · unfold dispatchOpen
    split
    · exact h
    · rename_i e he
      obtain ⟨hmem, -⟩ := mem_of_findEntry he
      simp only
      generalize (if result = LastResult.done then ChuteCounter.opened else ChuteCounter.unconfirmed) = c
      split
      · exact openCompleted_sound (s := countChute _ c s) h hmem ‹_›
      · refine updateEntry_keeps_sound _ _ (fun e => ?_) (countChute _ c s) h
        exact sameRecord_of_firing e fun _ => rfl
  · unfold dispatchClose
    split
    · rename_i e he
      obtain ⟨hmem, hi⟩ := mem_of_findEntry he
      split
      · rename_i hp
        exact hi ▸ removeEntry_sound_of_airless h hmem (by simp [Entry.holdsAir, hp])
      · exact h
    · exact h
  · exact h

end Sys2Proof.Machine
end

section
/-! The accounts at offers, events and commands (O57): an offer adds or joins WAITING entries alone (R67, R68), and whatever
takes WET records out of queues is followed by the judgement of going dry (R106). -/

namespace Sys2Proof.Machine

/-! ### Offers (R65 to R68) -/

/-- All that an offer can do to the firings and the state controller. -/
theorem offer_cases (s : State) (g : Nat) (c e : Time) (prio : Nat) (o : Origin) :
    (offer g c e prio o s).1 = s ∨
    (offer g c e prio o s).1 = { s with firing := { s.firing with
      queues := Tab.set [] s.firing.queues g (insertEntry (newEntry s c e prio o) (s.queue g))
      nextIdent := s.firing.nextIdent + 1 } } ∨
    ∃ y others purge, touchedEntries s g c e = y :: others ∧ (∀ x ∈ others, x.phase = .waiting) ∧
      (offer g c e prio o s).1 = { s with
        firing := { s.firing with
          queues := Tab.set [] s.firing.queues g (absorb (mergeEntry y others c e prio) others (s.queue g)) }
        ctl := { s.ctl with purge := purge } } := by
  by_cases hin : (s.nozzle g).state = .inService
  · cases ht : touchedEntries s g c e with
    | nil =>
      rw [offer_of_untouched prio o hin ht]
      split
      · exact .inr (.inl rfl)
      · exact .inl rfl
    | cons y others =>
      by_cases hr : MergeRefused s y others (mergeEntry y others c e prio)
      · exact .inl (by rw [offer_of_refused o hin ht hr])
      · refine .inr (.inr ⟨y, others, _, rfl, fun x hx => ?_, by rw [offer_of_merged o hin ht hr]⟩)
        exact not_not.1 fun hw => hr (.inr (.inl ⟨x, hx, hw⟩))
  · exact .inl (by rw [offer_of_out prio o hin])

/-- A queue written that holds as much air as before, and WET records exactly if it held them before. -/
theorem FiringsAccounted.write {s t : State} (h : FiringsAccounted s) {g m : Nat} {q : List Entry}
    (hf : t.firing = ⟨Tab.set [] s.firing.queues g q, s.firing.openCount, m⟩) (hd : t.ctl.dry = s.ctl.dry)
    (hg : t.ctl.goingDry = s.ctl.goingDry) (hq : SoundQueue m q) (hm : s.firing.nextIdent ≤ m)
    (hair : q.countP Entry.holdsAir = (s.queue g).countP Entry.holdsAir)
    (hwet : (∃ e ∈ q, e.isWet = true) ↔ ∃ e ∈ s.queue g, e.isWet = true) : FiringsAccounted t := by
  have hsound : FiringsSound t := by
    unfold FiringsSound
    rw [hf, hd]
    refine SoundFirings.write_kept h.sound hq hm hair fun hdry e he => ?_
    rw [← Bool.not_eq_true]
    exact fun hw => h.sound.dry hdry ⟨g, hwet.1 ⟨e, he, hw⟩⟩
  refine h.of_sound hsound hg ?_
  rintro ⟨g', e, he, hw⟩
  rw [hf]
  by_cases hgg : g' = g
  · subst hgg
    obtain ⟨x, hx, hxw⟩ := hwet.2 ⟨e, he, hw⟩
    exact ⟨g', x, by rwa [Tab.get_set_same], hxw⟩
  · exact ⟨g', e, by rwa [Tab.get_set_other _ _ _ hgg], hw⟩

/-- An entry that comes in by an offer is WAITING and has no firing record (R67). -/
theorem insertEntry_keeps_accounts {s : State} (h : FiringsAccounted s) (g : Nat) (c e : Time) (prio : Nat) (o : Origin) :
    FiringsAccounted { s with firing := { s.firing with
      queues := Tab.set [] s.firing.queues g (insertEntry (newEntry s c e prio o) (s.queue g))
      nextIdent := s.firing.nextIdent + 1 } } := by
  have hsound : SoundQueue s.firing.nextIdent (s.queue g) := SoundFirings.queue h.sound g
  have hnew : (newEntry s c e prio o).Recorded := by simp [Entry.Recorded, newEntry]
  obtain ⟨earlier, later, hq, -, -, hi⟩ := insertEntry_split (newEntry s c e prio o) (s.queue g)
  rw [hq] at hsound
  rw [hi]
  refine h.write rfl rfl rfl (hsound.insert rfl hnew) (Nat.le_succ _) ?_ ?_
  · rw [hq, countP_holdsAir_split]
    rfl
  · have hdry : (newEntry s c e prio o).isWet = false := rfl
    rw [hq]
    simp only [List.perm_middle.mem_iff, List.mem_cons, exists_eq_or_imp, hdry, Bool.false_eq_true, false_or]

/-- A merge joins WAITING entries with the earliest touched, whose phase and record stay (R68). -/
theorem absorb_keeps_accounts {s : State} (h : FiringsAccounted s) {g : Nat} {c e : Time} {prio : Nat} {y : Entry}
    {others : List Entry} (purge : Option Purge) (ht : touchedEntries s g c e = y :: others)
    (hw : ∀ x ∈ others, x.phase = .waiting) :
    FiringsAccounted { s with
      firing := { s.firing with
        queues := Tab.set [] s.firing.queues g (absorb (mergeEntry y others c e prio) others (s.queue g)) }
      ctl := { s.ctl with purge := purge } } := by
  have hsound : SoundQueue s.firing.nextIdent (s.queue g) := SoundFirings.queue h.sound g
  have hsub : (y :: others).Sublist (s.queue g) := ht ▸ List.filter_sublist
  have hstays : ∀ x ∈ s.queue g, x.phase ≠ .waiting → (!(others.any fun z => z.ident == x.ident)) = true := by
    intro x hx hstarted
    simp only [Bool.not_eq_true', List.any_eq_false, beq_iff_eq]
    intro z hz hi
    exact hstarted (hsound.eq_of_ident hx (hsub.subset (by simp [hz])) hi.symm ▸ hw z hz)
  have hsame : ∀ x ∈ s.queue g, SameRecord (if x.ident = y.ident then mergeEntry y others c e prio else x) x := by
    intro x hx
    split
    · rename_i hi
      rw [hsound.eq_of_ident hx (hsub.subset (by simp)) hi]
      exact ⟨rfl, rfl, rfl⟩
    · exact ⟨rfl, rfl, rfl⟩
  have hkept : SoundQueue s.firing.nextIdent (absorb (mergeEntry y others c e prio) others (s.queue g)) :=
    (hsound.sublist List.filter_sublist).map fun x hx => hsame x (List.mem_filter.1 hx).1
  refine h.write rfl rfl rfl hkept le_rfl ?_ ⟨?_, ?_⟩
  · rw [absorb, List.countP_map, List.countP_filter]
    refine List.countP_congr fun x hx => ?_
    rw [Bool.and_eq_true, Function.comp_apply]
    refine Iff.trans (and_congr_left fun _ => ?_) (and_iff_left_of_imp fun hair => hstays x hx (started_of_holdsAir hair))
    rw [← (hsame x hx).holdsAir]
    rfl
  · rintro ⟨x', hx', hwet⟩
    obtain ⟨x, hx, rfl⟩ := List.mem_map.1 hx'
    have hx := (List.mem_filter.1 hx).1
    exact ⟨x, hx, (hsame x hx).isWet ▸ hwet⟩
  · rintro ⟨x, hx, hwet⟩
    refine ⟨_, List.mem_map_of_mem (List.mem_filter.2 ⟨hx, hstays x hx ((hsound.recorded x hx).started hwet)⟩), ?_⟩
    exact (hsame x hx).isWet.trans hwet

theorem offer_keeps_accounts (g : Nat) (c e : Time) (prio : Nat) (o : Origin) :
    Keeps FiringsAccounted fun s => (offer g c e prio o s).1 := by
  intro s h
  simp only
  obtain hs | hs | ⟨y, others, purge, ht, hw, hs⟩ := offer_cases s g c e prio o
  · rwa [hs]
  · rw [hs]
    exact insertEntry_keeps_accounts h g c e prio o
  · rw [hs]
    exact absorb_keeps_accounts h purge ht hw

theorem placeOne_keeps_accounts (prio : Nat) (f : PlanFiring) :
    Keeps FiringsAccounted fun s => (placeOne prio s f).1 := by
  intro s h
  simp only
  by_cases hin : (s.nozzle f.nozzle).state = .inService
  · obtain hlate | htimely := Int.lt_or_le (f.command - s.clk.now).toInt s.settings.leadMin
    · rwa [placeOne_of_late hin hlate]
    · rw [placeOne_of_timely hin htimely]
      exact offer_keeps_accounts _ _ _ _ _ s h
  · rwa [placeOne_of_out hin]

theorem placeAndCount_keeps_accounts (k : Chute) (cls prio : Nat) (plan : List PlanFiring) :
    Keeps FiringsAccounted (placeAndCount k cls prio plan) := by
  intro s h
  suffices hplan : ∀ u, FiringsAccounted u → FiringsAccounted (placePlan prio plan u).1 from hplan s h
  induction plan with
  | nil => exact fun _ hu => hu
  | cons f fs ih => exact fun u hu => ih _ (placeOne_keeps_accounts prio f u hu)

theorem applyPolicy_keeps_accounts (e : HeldEntry) : Keeps FiringsAccounted (applyPolicy e) := by
  intro s h
  unfold applyPolicy
  split
  · exact placeAndCount_keeps_accounts _ _ _ _ s h
  · exact h

/-- The purge set has no part in the accounts. -/
theorem purgeOffer_keeps_accounts (width n : Nat) (k : Chute) : Keeps FiringsAccounted (purgeOffer width n k) := by
  intro s h
  unfold purgeOffer
  simp only
  split
  · have ho := offer_keeps_accounts (globalId k n) (plus s.clk.now s.settings.leadMin)
      (plus (plus s.clk.now s.settings.leadMin) width) 0 .purge s h
    revert ho
    simp only
    generalize offer (globalId k n) (plus s.clk.now s.settings.leadMin)
      (plus (plus s.clk.now s.settings.leadMin) width) 0 .purge s = offered
    obtain ⟨t, _ | _ | _ | _⟩ := offered <;> exact id
  · exact h

/-! ### Starts, ends and completions -/

theorem entryStart_keeps_accounts (g : Nat) : Keeps FiringsAccounted (entryStart g) := by
  intro s h
  unfold entryStart
  split
  · rename_i x hx
    have hfound := List.find?_some hx
    simp only [Bool.and_eq_true, beq_iff_eq] at hfound
    exact conclude_accounts (grantNext_keeps_sound _ _
      (judgeStart_sound h.sound (List.mem_of_find?_eq_some hx) hfound.1))
  · exact h

theorem entryEnd_keeps_accounts (g : Nat) : Keeps FiringsAccounted (entryEnd g) := by
  intro s h
  unfold entryEnd
  split
  · rename_i e he
    have hfound := List.find?_some he
    simp only [Bool.and_eq_true, beq_iff_eq] at hfound
    exact conclude_accounts (grantNext_keeps_sound _ _
      (endEntry_sound h.sound (List.mem_of_find?_eq_some he) hfound.1))
  · exact h

theorem completeTransaction_keeps_accounts (k : Chute) (t : Transaction) (result : LastResult) (m : Nat) :
    Keeps FiringsAccounted (completeTransaction k t result m) := by
  intro s h
  refine conclude_accounts (freeBus_keeps_sound _ _ (dispatchEffect_keeps_sound _ _ _
    (nozzleEffect_keeps_sound _ _ _ _ ?_)))
  split <;> exact h.sound

theorem closeAllSendEnds_keeps_accounts (k : Chute) (t : Transaction) :
    Keeps FiringsAccounted (closeAllSendEnds k t) := by
  intro s h
  unfold closeAllSendEnds
  split
  · exact h
  · refine conclude_accounts (freeBus_keeps_sound _ _ ?_)
    split <;> exact h.sound

theorem replyWaitExpiry_keeps_accounts (k : Chute) : Keeps FiringsAccounted (replyWaitExpiry k) := by
  intro s h
  have hretry : ∀ t : Transaction,
      FiringsAccounted (if t.retry then completeTransaction k t .noReply 0 s else retry k t s) := by
    intro t
    split
    · exact completeTransaction_keeps_accounts k t _ _ s h
    · exact h
  unfold replyWaitExpiry
  split
  · exact h
  · split
    · exact h
    · split
      · split
        · exact closeAllSendEnds_keeps_accounts k _ s h
        · exact hretry _
        · exact hretry _
      · exact h

theorem valveReply_keeps_accounts (k : Chute) (lane : Lane) (bytes : List Byte) :
    Keeps FiringsAccounted (valveReply k lane bytes) := by
  intro s h
  unfold valveReply
  split
  · split
    · split
      · exact closeAllSendEnds_keeps_accounts k _ s h
      · exact completeTransaction_keeps_accounts k _ _ _ s h
      · exact completeTransaction_keeps_accounts k _ _ _ s h
    · exact h
  · exact h

/-! ### Resets, inputs and giving up work -/

/-- The end of the cold reset sends CLOSE ALLs alone, and leaves the queues as they are (R124, R148). -/
theorem coldResetEnd_keeps_accounts (straps : BitVec 5) (estop airlow : Bool) :
    Keeps FiringsAccounted (coldResetEnd straps estop airlow) := by
  intro s h
  have hgrant : FiringsAccounted (grantAll (requestCloseAll { s with
      ctl := { s.ctl with rstn := false }
      clk := LineClock.restarted coldPeriod
      link := { s.link with address := strapAddress straps } })) := by
    rw [grantAll_of_closeAll _ fun k => by simp [State.busOf, requestCloseAll]]
    exact h
  have hestop : ∀ u, FiringsAccounted u → FiringsAccounted (if estop then coldEstop u else u) := by
    intro u hu
    split
    · exact enterState_keeps_accounts .halt { u with ctl := _ } hu
    · exact hu
  have hairlow : ∀ u, FiringsAccounted u → FiringsAccounted (if airlow then coldAirlow u else u) := by
    intro u hu
    split <;> exact hu
  exact hairlow _ (hestop _ hgrant)

/-- The sightings given up have no part in the accounts. -/
theorem giveUpPending_keeps_accounts :
    Keeps FiringsAccounted fun s => emptyHeld (emptyIntake (abandonPlanning s)) := by
  intro s h
  simp only [giveUpPending_eq]
  exact h

theorem estopAssertion_keeps_accounts : Keeps FiringsAccounted estopAssertion := by
  intro s h
  unfold estopAssertion
  split
  · exact h
  · simp only [emergencyStop_eq]
    exact firingsAccounted_of_empty rfl rfl rfl

theorem windDownLimitExpiry_keeps_accounts : Keeps FiringsAccounted windDownLimitExpiry := by
  intro s h
  unfold windDownLimitExpiry
  split
  · split
    · have hreduced := reduceQueues_keeps_sound _ (giveUpPending_keeps_accounts s h).sound
      exact conclude_accounts (grantAll_keeps_sound { reduceQueues _ with ctl := _ } hreduced)
    · exact h
  · exact h

/-- The purge record has no part in the accounts. -/
theorem withPurge_sound {s : State} (h : FiringsSound s) (p : Option Purge) :
    FiringsSound { s with ctl := { s.ctl with purge := p } } := h

theorem makeTurn_keeps_accounts (p : Purge) : Keeps FiringsAccounted (makeTurn p) := by
  intro s h
  have hoffer := fun k => purgeOffer_keeps_accounts p.width (p.nextTurn % Config.nozzlesPerChute) k
  refine conclude_accounts (withPurge_sound (FiringsAccounted.sound ?_) _)
  exact hoffer 3 _ (hoffer 2 _ (hoffer 1 _ (hoffer 0 s h)))

theorem purgeTurn_keeps_accounts : Keeps FiringsAccounted purgeTurn := by
  intro s h
  unfold purgeTurn
  split
  · split
    · exact makeTurn_keeps_accounts _ s h
    · exact h
  · exact h

/-! ### The sighting port, the planner and the held list -/

theorem takeVerdict_keeps_accounts (k : Chute) (tag : Byte) (confirm : Bool) :
    Keeps FiringsAccounted (takeVerdict k tag confirm) := by
  intro s h
  unfold takeVerdict
  split
  · split
    · refine endWindDown_keeps_accounts _ ?_
      split
      · exact placeAndCount_keeps_accounts _ _ _ _ (removeHeld k tag s) h
      · exact h
    · unfold verdictWithoutEntry
      split <;> exact h
  · exact h

theorem recordByte_keeps_accounts (b : Byte) : Keeps FiringsAccounted fun s => recordByte s b := by
  intro s h
  simp only [recordByte]
  split
  · exact h
  · split
    · exact h
    · unfold completeRecord
      split
      · exact h
      · exact h
      · rw [admitSighting_eq]
        split_ifs <;> exact h
      · exact takeVerdict_keeps_accounts _ _ _ (setRecordRx (.collecting []) s) h

theorem handOff_keeps_accounts (e : HeldEntry) : Keeps FiringsAccounted (handOff e) := by
  intro s h
  unfold handOff
  split
  · exact applyPolicy_keeps_accounts e (pushTag _ _ (countSighting _ _ _ s)) h
  · split
    · exact applyPolicy_keeps_accounts e (countSighting _ _ _ (countChute _ _ s)) h
    · split
      · exact applyPolicy_keeps_accounts e (countSighting _ _ _ (setNotice _ _ s)) h
      · exact h

theorem deadlineExpiry_keeps_accounts (k : Chute) (tag : Byte) : Keeps FiringsAccounted (deadlineExpiry k tag) := by
  intro s h
  unfold deadlineExpiry
  split
  · split
    · exact endWindDown_keeps_accounts _
        (applyPolicy_keeps_accounts _ (pushTag _ _ (countSighting _ _ _ (removeHeld k tag s))) h)
    · exact h
  · exact h

theorem nozzleSetStep_keeps_accounts (r : PlanRecord) : Keeps FiringsAccounted (nozzleSetStep r) := by
  intro s h
  unfold nozzleSetStep
  simp only
  split
  · exact h
  · unfold formNozzleSet
    simp only
    split
    · exact h
    · split <;> exact h

theorem confidenceStep_keeps_accounts (r : PlanRecord) : Keeps FiringsAccounted (confidenceStep r) := by
  intro s h
  unfold confidenceStep
  simp only
  split
  · exact h
  · exact handOff_keeps_accounts _ (endPlanning s) h

theorem lsyncPulse_keeps_accounts : Keeps FiringsAccounted lsyncPulse := by
  intro s h
  have hsettle : ∀ n t, FiringsAccounted t → FiringsAccounted (judgeSettle n t) := by
    intro n t ht
    unfold judgeSettle
    split
    · exact ht
    · split_ifs <;> exact ht
  unfold lsyncPulse
  simp only
  split
  · exact h
  · refine hsettle _ _ ?_
    split <;> exact h

/-- Every event of the part and of its inputs keeps the accounts. -/
theorem events_keep_accounts : EventsKeep FiringsAccounted where
  heldInReset _ _ := firingsAccounted_of_empty rfl rfl rfl
  coldResetEnd := coldResetEnd_keeps_accounts
  lsyncPulse := lsyncPulse_keeps_accounts
  lsyncLow _ h := h
  recordByte := recordByte_keeps_accounts
  recordGap s h := by
    unfold recordGap
    split <;> exact h
  collecting _ h := h
  plannerTake s h := by
    unfold plannerTake
    split <;> exact h
  endWindDown := endWindDown_keeps_accounts
  ageStep r s _ h := by
    unfold ageStep
    simp only
    split <;> exact h
  bankStep _ _ _ h := h
  bandStep r s _ h := by
    unfold bandStep
    simp only
    split <;> exact h
  nozzleSetStep r s _ := nozzleSetStep_keeps_accounts r s
  sizeBandStep _ _ _ h := h
  widthStep r s _ h := by
    unfold widthStep
    simp only
    split <;> exact h
  flightStep _ _ _ h := h
  seenTimeStep _ _ _ h := h
  perNozzleTimesStep _ _ _ h := h
  leadStep r s _ h := by
    unfold leadStep
    simp only
    split <;> exact h
  confidenceStep r s _ := confidenceStep_keeps_accounts r s
  placement r s _ h := placeAndCount_keeps_accounts _ _ _ _ (endPlanning s) h
  deadlineExpiry := deadlineExpiry_keeps_accounts
  entryStart := entryStart_keeps_accounts
  entryEnd := entryEnd_keeps_accounts
  grant k s h := conclude_accounts (grantNext_keeps_sound k s h.sound)
  commandSent k s h := by
    unfold commandSent
    simp only
    split
    · split <;> exact h
    · exact h
  replyWaitExpiry := replyWaitExpiry_keeps_accounts
  valveReply := valveReply_keeps_accounts
  estopAssertion := estopAssertion_keeps_accounts
  estopRelease _ h := h
  airlowAssertion s h := by
    unfold airlowAssertion
    split <;> exact h
  airlowRelease _ h := h
  purgeTurn := purgeTurn_keeps_accounts
  concludePurge := concludePurge_keeps_accounts
  windDownLimitExpiry := windDownLimitExpiry_keeps_accounts
  warmReset s _ := warmReset_accounted s
  concludeDry _ h := concludeDry_accounts h.sound
  replyTurnaroundEnd s h := by
    unfold replyTurnaroundEnd
    split
    · split <;> exact h
    · exact h
  replySent s h := by
    unfold replySent
    split <;> exact h

/-! ### Commands -/

theorem linkBlind_accounts : LinkBlind FiringsAccounted where
  setFrameRx _ _ h := h
  controlError _ _ h := h
  giveReply _ _ _ h := h

theorem goStandby_keeps_accounts (p : List Byte) : KeepsCmd FiringsAccounted (cmdGoStandby p) := by
  intro s h
  have ht := takeOwedReset_keeps_accounts s h
  unfold cmdGoStandby
  split
  · simp only
    split
    · exact ht
    · exact enterState_keeps_accounts .standby _ (abandonOrigin_keeps_accounts .sighting
        (emptyRings (emptyHeld (emptyIntake (abandonPlanning (closeWindow (takeOwedReset s))))))
        (giveUpPending_keeps_accounts (closeWindow (takeOwedReset s)) ht))
    · exact enterState_keeps_accounts .standby _ (abandonOrigin_keeps_accounts .purge
        { closeWindow (takeOwedReset s) with ctl := _ } ht)
    · exact keeps_ite ht (enterState_keeps_accounts .standby (closeWindow (takeOwedReset s)) ht)
    · exact ht
  · exact h

theorem goRun_keeps_accounts (p : List Byte) : KeepsCmd FiringsAccounted (cmdGoRun p) := by
  intro s h
  have ht := takeOwedReset_keeps_accounts s h
  unfold cmdGoRun
  split
  · exact keeps_ite ht <| keeps_ite ht <| keeps_ite ht <| keeps_ite ht <| keeps_ite ht <|
      enterState_keeps_accounts .run (closeWindow (takeOwedReset s)) ht
  · exact h

theorem startPurge_keeps_accounts (rounds width spacing : Nat) :
    Keeps FiringsAccounted (startPurge rounds width spacing) := fun s h =>
  makeTurn_keeps_accounts _ _ (enterState_keeps_accounts .purge (closeWindow { s with ctl := _ }) h)

theorem purge_keeps_accounts (p : List Byte) : KeepsCmd FiringsAccounted (cmdPurge p) := by
  intro s h
  have ht := takeOwedReset_keeps_accounts s h
  unfold cmdPurge
  split
  · refine keeps_ite ht (keeps_ite ht ?_)
    simp only
    exact startPurge_keeps_accounts _ _ _ _ ht
  · exact h

theorem restart_keeps_accounts (p : List Byte) : KeepsCmd FiringsAccounted (cmdRestart p) := by
  intro s h
  have ht := takeOwedReset_keeps_accounts s h
  unfold cmdRestart
  split
  · exact keeps_ite ht (endWindDown_keeps_accounts _ (enterState_keeps_accounts .windDown
      (closeWindow { takeOwedReset s with ctl := _ }) ht))
  · exact h

/-- A part told to go dry without a WET record is dry at once (R106). -/
theorem dryOn_keeps_accounts (p : List Byte) : KeepsCmd FiringsAccounted (cmdDryOn p) := by
  intro s h
  have ht := takeOwedReset_keeps_accounts s h
  have hdry : Keeps FiringsAccounted dryOn := by
    intro u hu
    unfold dryOn
    split
    · exact hu
    · exact concludeDry_accounts (s := { u with ctl := _ }) hu.sound
  unfold cmdDryOn
  split
  · exact keeps_ite (hdry (closeWindow (takeOwedReset s)) ht) ht
  · exact h

theorem dryOff_keeps_accounts (p : List Byte) : KeepsCmd FiringsAccounted (cmdDryOff p) := by
  intro s h
  have ht := takeOwedReset_keeps_accounts s h
  have hoff : FiringsAccounted (dryOff (closeWindow (takeOwedReset s))) := by
    obtain ⟨hwf, hqueue, hair, -⟩ := ht.sound
    exact (firingsAccounted_iff _).2 ⟨⟨hwf, hqueue, hair, nofun⟩, nofun⟩
  unfold cmdDryOff
  split
  · exact keeps_ite hoff ht
  · exact h

theorem nozzleWrite_keeps_accounts (p : List Byte) : KeepsCmd FiringsAccounted (cmdNozzleWrite p) := by
  intro s h
  have hwrite : ∀ g f, FiringsAccounted (writeNozzle g f s) := by
    intro g f
    unfold writeNozzle
    simp only
    split
    · exact conclude_accounts (abandonWaiting_keeps_sound g (closeWindow (s.setNozzle g _)) h.sound)
    · exact h
  unfold cmdNozzleWrite
  split
  · split
    · exact h
    · exact keeps_ite h <| keeps_ite h <| keeps_ite h <| keeps_ite h <| hwrite _ _
  · exact h

theorem test_keeps_accounts (p : List Byte) : KeepsCmd FiringsAccounted (cmdTest p) := by
  intro s h
  unfold cmdTest
  split
  · exact keeps_ite h <| keeps_ite h <| keeps_ite h <| keeps_ite h <|
      offer_keeps_accounts _ _ _ _ _ (closeWindow s) h
  · exact h

theorem setNumeric_keeps_accounts {id chute : Byte} {allowed : State → Bool} {lo hi : Nat}
    {store : Nat → State → State} {value : Nat} (hstore : ∀ v, Keeps FiringsAccounted (store v)) :
    KeepsCmd FiringsAccounted (setNumeric id chute allowed lo hi store value) :=
  fun s h => keeps_ite (hstore _ s h) h

theorem withValue_keeps_accounts {f : Byte → Nat → State → State × Answer}
    (hf : ∀ c v, KeepsCmd FiringsAccounted (f c v)) (rest : List Byte) :
    KeepsCmd FiringsAccounted (withValue f rest) := by
  intro s h
  unfold withValue
  split
  · exact hf _ _ s h
  · exact h

/-- The settings have no part in the accounts. -/
theorem updateSettings_keeps_accounts (f : Settings → Settings) : Keeps FiringsAccounted (updateSettings f) :=
  fun _ h => h

theorem setSetting_keeps_accounts {id : Byte} {allowed : State → Bool} {lo hi : Nat} {f : Nat → Settings → Settings}
    (rest : List Byte) : KeepsCmd FiringsAccounted
      (withValue (fun _ => setNumeric id 0 allowed lo hi fun v => updateSettings (f v)) rest) :=
  withValue_keeps_accounts (fun _ _ => setNumeric_keeps_accounts fun _ => updateSettings_keeps_accounts _) rest

/-- Every command keeps the accounts. -/
theorem commands_keep_accounts : CommandsKeep FiringsAccounted where
  poll p s h := by
    unfold cmdPoll
    split
    · split <;> exact h
    · exact h
  notices p s h := by
    unfold cmdNotices
    split <;> exact h
  rearm p s h := by
    unfold cmdRearm
    split <;> exact h
  goRun := goRun_keeps_accounts
  goStandby := goStandby_keeps_accounts
  purge := purge_keeps_accounts
  restart := restart_keeps_accounts
  clearCold p s h := by
    unfold cmdClearCold
    split
    · exact takeOwedReset_keeps_accounts s h
    · exact h
  dryOn := dryOn_keeps_accounts
  dryOff := dryOff_keeps_accounts
  window p s h := by
    have hopen : ∀ w, FiringsAccounted (openWindow w s) := fun w => by
      rw [openWindow_eq]
      exact h
    unfold cmdWindow
    split
    · split
      · exact h
      · exact keeps_ite h <| keeps_ite h <| keeps_ite h <| hopen _
    · exact h
  put p s h := by
    unfold cmdPut
    refine keeps_ite h ?_
    split
    · exact h
    · refine keeps_ite h ?_
      split
      · exact h
      · rw [putEntry_eq]
        exact h
  get p s h := by
    unfold cmdGet
    split
    · split
      · exact h
      · exact keeps_ite h h
    · exact h
  requestSwap ls s h := keeps_ite h <| keeps_ite h <| keeps_ite h h
  swapCancel p s h := by
    unfold cmdSwapCancel
    split
    · exact keeps_ite h h
    · exact h
  nozzleRead p s h := by
    unfold cmdNozzleRead
    split
    · exact keeps_ite h h
    · exact h
  nozzleWrite := nozzleWrite_keeps_accounts
  test := test_keeps_accounts
  lane p s h := by
    unfold cmdLane
    split
    · split <;> exact h
    · exact h
  query p s h := by
    unfold cmdQuery
    split
    · split <;> exact h
    · exact h
  tally p s h := by
    have hclear : ∀ (clear : Byte) n, FiringsAccounted (closeWindow (if clear = 1 then clearTally n s else s)) :=
      fun clear n => by
        split
        · cases n <;> exact h
        · exact h
    unfold cmdTally
    split
    · refine keeps_ite h ?_
      split
      · exact h
      · exact hclear _ _
    · exact h
  setAirTrim := setSetting_keeps_accounts
  setLinePeriod := withValue_keeps_accounts fun _ _ => setNumeric_keeps_accounts fun _ _ h => h
  setMaxAge := setSetting_keeps_accounts
  setLeadMin := setSetting_keeps_accounts
  setWidthMin rest s := setSetting_keeps_accounts rest s
  setWidthMax rest s := setSetting_keeps_accounts rest s
  setWidthCap rest s := setSetting_keeps_accounts rest s
  setValveGap := withValue_keeps_accounts fun c v s h => by
    show FiringsAccounted (Prod.fst (match chuteByte c with | none => _ | some _ => _))
    split
    · exact h
    · exact setNumeric_keeps_accounts (fun _ => updateSettings_keeps_accounts _) s h
  setReplyWait := setSetting_keeps_accounts
  setMissLimit := setSetting_keeps_accounts
  setWindDownLimit := setSetting_keeps_accounts
  setGroupAddress := withValue_keeps_accounts fun _ _ _ h => keeps_ite h h
  setNoticeMask := withValue_keeps_accounts fun _ _ _ h => h

/-- Settles O57: the operations on entries move the open counts with the air, and what may take the last WET record away
is concluded by the end of going dry; every event and every command comes down to such operations. -/
theorem stepKeepsFiringsAccounted : Obligations.StepKeepsFiringsAccounted := fun _ _ hs h =>
  step_keeps (fun _ _ h => h) (fun _ h => h)
    (exec_keeps linkBlind_accounts commands_keep_accounts events_keep_accounts) hs h

end Sys2Proof.Machine
end

section
/-! Ends of entries and the end of going dry (O22), and the levels of ESTOP and AIRLOW (O29): R96, R103, R106, R114, R115,
R155, R156, R159. -/

namespace Sys2Proof.Machine

/-! ### The end of an entry (R103) -/

section
variable {s : State} {g : Nat} {e : Entry}

theorem exec_entryEnd (hs : Awake s) (he : endingEntry s g = some e) :
    exec (.entryEnd g) s = .next (conclude (grantNext (chuteOf g) (endEntry g e s))) := by
  refine (live_awake s hs).trans ?_
  rw [entryEnd, he]

/-- An end that finds no OPEN entry does nothing. -/
theorem exec_entryEnd_of_none (hs : Awake s) (h : ∀ e ∈ s.queue g, ¬(e.phase = .opened ∧ due e.stop s.clk.now = true)) :
    exec (.entryEnd g) s = .next s := by
  have hnone : endingEntry s g = none := List.find?_eq_none.2 fun e he => by simpa using h e he
  refine (live_awake s hs).trans ?_
  rw [entryEnd, hnone]

/-- The first OPEN entry whose end has come is the one that ends (R63, R103). -/
theorem endingEntry_eq {earlier later : List Entry} (hq : s.queue g = earlier ++ e :: later)
    (hearlier : ∀ y ∈ earlier, ¬(y.phase = .opened ∧ due y.stop s.clk.now = true)) (hp : e.phase = .opened)
    (hdue : due e.stop s.clk.now = true) : endingEntry s g = some e :=
  find_entry hq (fun y hy => by simpa using hearlier y hy) (by simp [hp, hdue])

section
variable {earlier later : List Entry} {f : FiringRecord}

/-- A wet entry that ends becomes CLOSING with a CLOSE due at its end (R103). -/
theorem endEntry_of_wet (hq : s.queue g = earlier ++ e :: later) (hids : ((s.queue g).map (·.ident)).Nodup)
    (hf : e.firing = some f) (hk : f.kind = .wet) : endEntry g e s = { s with
      firing := { s.firing with
        queues := Tab.set [] s.firing.queues g
          (earlier ++ { e with phase := .closing, firing := some { f with closeReq := .waiting } } :: later)
        openCount := s.firing.openCount.set (chuteOf g) (s.openCount (chuteOf g) - 1) }
      bus := s.bus.set (chuteOf g) { s.busOf (chuteOf g) with
        requests := (s.busOf (chuteOf g)).requests ++ [⟨false, g, e.ident, e.stop⟩] } } := by
  have hkind : e.kind = .wet := by simp [Entry.kind, hf, hk]
  have hqueue : (s.setOpenCount (chuteOf g) (s.openCount (chuteOf g) - 1)).queue g = earlier ++ e :: later := hq
  simp only [endEntry, hkind, updateEntry, hqueue, map_ident _ (hq ▸ hids), hf]
  rfl

/-- A dry one leaves its queue (R103). -/
theorem endEntry_of_dry (hq : s.queue g = earlier ++ e :: later) (hids : ((s.queue g).map (·.ident)).Nodup)
    (hf : e.firing = some f) (hk : f.kind = .dry) : endEntry g e s = { s with
      firing := { s.firing with
        queues := Tab.set [] s.firing.queues g (earlier ++ later)
        openCount := s.firing.openCount.set (chuteOf g) (s.openCount (chuteOf g) - 1) } } := by
  have hkind : e.kind = .dry := by simp [Entry.kind, hf, hk]
  have hqueue : (s.setOpenCount (chuteOf g) (s.openCount (chuteOf g) - 1)).queue g = earlier ++ e :: later := hq
  simp only [endEntry, hkind, removeEntry, hqueue, filter_ident (hq ▸ hids)]
  rfl

end

/-! ### The end of going dry (R106) -/

theorem anyWet_iff_record (s : State) :
    anyWet s = true ↔ ∃ p ∈ s.firing.queues, ∃ e ∈ p.2, ∃ f, e.firing = some f ∧ f.kind = .wet := by
  simp only [anyWet, List.any_eq_true, isWet_iff, Option.map_eq_some_iff]

theorem exec_dryFlagSet (hs : Awake s) : exec .dryFlagSet s = .next (concludeDry s) := live_awake s hs

theorem concludeDry_of_not_going (h : s.ctl.goingDry = false) : concludeDry s = s := by
  simp [concludeDry, h]

theorem concludeDry_of_wet (h : anyWet s = true) : concludeDry s = s := by
  simp [concludeDry, h]

theorem concludeDry_of_no_wet (hg : s.ctl.goingDry = true) (h : anyWet s = false) :
    concludeDry s = { s with ctl := { s.ctl with goingDry := false, dry := true } } := by
  simp [concludeDry, hg, h]

/-- Where nothing is going dry, no purge is under way and no wind-down is over, nothing is concluded (R106, R155, R159). -/
theorem conclude_of_nothing (hg : s.ctl.goingDry = false) (hp : s.ctl.purge = none)
    (hw : ¬(s.ctl.op = .windDown ∧ NothingLeft s)) : conclude s = s := by
  unfold conclude
  rw [concludeDry_of_not_going hg, concludePurge, hp]
  exact endWindDown_of_none_over hw

end

/-- Settles O22: the end's equation by the kind of the firing, and the judgement of going dry by its WET records. -/
theorem endClosesAndDryFlagFollows : Obligations.EndClosesAndDryFlagFollows := by
  intro s hs
  refine ⟨fun g earlier later e f hq hids hearlier hp hf hdue => ?_, fun g => exec_entryEnd_of_none hs,
    fun hg => ⟨fun hnone => ?_, fun hwet => ?_⟩, fun hg => ⟨?_, conclude_of_nothing hg⟩⟩
  · rw [exec_entryEnd hs (endingEntry_eq hq hearlier hp hdue)]
    obtain ⟨kind, openReq, closeReq⟩ := f
    cases kind with
    | wet => rw [endEntry_of_wet hq hids hf rfl]
    | dry => rw [endEntry_of_dry hq hids hf rfl]
  · have hdry : anyWet s = false := by
      rw [← Bool.not_eq_true, anyWet_iff_record]
      rintro ⟨p, hpq, e, he, f, hf, hk⟩
      exact hnone p hpq e he f hf hk
    rw [exec_dryFlagSet hs, concludeDry_of_no_wet hg hdry]
  · rw [exec_dryFlagSet hs, concludeDry_of_wet ((anyWet_iff_record s).2 hwet)]
  · rw [exec_dryFlagSet hs, concludeDry_of_not_going hg]

/-! ### The levels (R96, R156) -/

theorem airlowAssertion_eq (s : State) : airlowAssertion s =
    if s.ctl.airlow = true then s
    else { s with
      ctl := { s.ctl with airlow := true }
      notices := s.notices.set s.settings.noticeMask .airLow none } := rfl

theorem estopAssertion_of_asserted {s : State} (h : s.ctl.estop = true) : estopAssertion s = s := if_pos h

/-- Settles O29: each line's event sets its level, and an assertion looks at the level first. -/
theorem levelsFollowTheLines : Obligations.LevelsFollowTheLines := by
  intro s hs
  have hair : exec .airlowAssertion s = .next (airlowAssertion s) := live_awake s hs
  have hstop : exec .estopAssertion s = .next (estopAssertion s) := live_awake s hs
  refine ⟨?_, ?_, fun h => ?_, fun h => ?_, fun h => ?_⟩
  · unfold exec execEstopRelease
    exact live_awake s hs
  · unfold exec execAirlowRelease
    exact live_awake s hs
  · rw [hair, airlowAssertion_eq, if_neg (by simp [h])]
  · rw [hair, airlowAssertion_eq, if_pos h]
  · rw [hstop, estopAssertion_of_asserted h]

end Sys2Proof.Machine
end

section
/-! The grants of a valve bus (O23): R100, R113, R115, R117, R123. -/

namespace Sys2Proof.Machine

section
variable {s : State} {h : Chute} {r : Request} {fuel : Nat} {e : Entry}

/-! ### A bus and its requests -/

theorem exec_grant (hs : Awake s) : exec (.grant h) s = .next
    (if (s.busOf h).inFlight = none ∧ ((s.busOf h).closeAll = true ∨ (s.busOf h).requests ≠ []) then
      conclude (grantNext h s) else s) := by
  have hlive : exec (.grant h) s = .next (if (s.busOf h).inFlight.isSome then s
      else if (s.busOf h).closeAll || !(s.busOf h).requests.isEmpty then conclude (grantNext h s) else s) := by
    unfold exec execGrant
    exact live_awake s hs
  rw [hlive]
  cases (s.busOf h).inFlight <;> simp

/-- With no transaction in flight and no CLOSE ALL waiting, the requests are granted in their order (R115). -/
theorem grantNext_of_free (hi : (s.busOf h).inFlight = none) (hc : (s.busOf h).closeAll = false) :
    grantNext h s = grantLoop h (s.busOf h).requests.length s := by
  simp [grantNext, hi, hc]

/-- A bus in use, or one at which nothing waits, grants nothing (R115). -/
theorem grantNext_of_nothing
    (hb : (s.busOf h).inFlight ≠ none ∨ ((s.busOf h).closeAll = false ∧ (s.busOf h).requests = [])) :
    grantNext h s = s := by
  cases hi : (s.busOf h).inFlight with
  | some t => simp [grantNext, hi]
  | none =>
    obtain hne | ⟨hc, hr⟩ := hb
    · exact absurd hi hne
    · rw [grantNext_of_free hi hc, hr]
      rfl

/-- The state with request `r` taken and sent: its entry's firing record says so, and the transaction carries the tag
counter, which advances (R113, R117). -/
def sentRequest (h : Chute) (r : Request) (kind : BusKind) (rest : List Request) (f : FiringRecord → FiringRecord)
    (s : State) : State :=
  { s with
    firing := { s.firing with queues := Tab.set [] s.firing.queues r.nozzle ((s.queue r.nozzle).map fun e =>
      if e.ident = r.ident then { e with firing := e.firing.map f } else e) }
    bus := s.bus.set h { s.busOf h with
      requests := rest
      tag := (s.busOf h).tag + 1
      inFlight := some ⟨kind, r.nozzle, r.ident, (s.busOf h).active, (s.busOf h).tag, false, none, false⟩ } }

theorem startTransaction_eq (f : FiringRecord → FiringRecord) :
    startTransaction h r (updateEntry r.nozzle r.ident (fun x => { x with firing := x.firing.map f }) (takeRequest h r s)) =
      sentRequest h r (if r.isOpen then .opn else .close) ((s.busOf h).requests.erase r) f s := by
  simp only [startTransaction, send, takeRequest, updateEntry, sentRequest, State.setBus, State.busOf, State.setQueue,
    PerChute.get_set_same, PerChute.set_set]
  rfl

/-! ### One turn of the arbiter -/

/-- A CLOSE is sent (R115, R117). -/
theorem grantLoop_of_close (hn : nextRequest (s.busOf h) = some r) (hr : r.isOpen = false) :
    grantLoop h (fuel + 1) s =
      sentRequest h r .close ((s.busOf h).requests.erase r) (fun f => { f with closeReq := .inFlight }) s := by
  have hsent := startTransaction_eq (s := s) (h := h) (r := r) fun f => { f with closeReq := .inFlight }
  rw [hr, if_neg Bool.false_ne_true] at hsent
  rw [← hsent, grantLoop, hn]
  simp only [hr, Bool.false_eq_true, if_false]

/-- An OPEN whose entry is gone is dropped unsent. -/
theorem grantLoop_of_gone (hn : nextRequest (s.busOf h) = some r) (hr : r.isOpen = true)
    (he : findEntry s r.nozzle r.ident = none) : grantLoop h (fuel + 1) s = grantLoop h fuel (takeRequest h r s) := by
  have he : findEntry (takeRequest h r s) r.nozzle r.ident = none := he
  rw [grantLoop, hn]
  simp only [hr, he, if_true]

/-- An OPEN whose entry is found is dropped unsent where that is not OPENING, starves it where it is late, and is sent
otherwise (R100, R117). -/
theorem grantLoop_of_found (hn : nextRequest (s.busOf h) = some r) (hr : r.isOpen = true)
    (he : findEntry s r.nozzle r.ident = some e) : grantLoop h (fuel + 1) s =
      if e.phase ≠ .opening then grantLoop h fuel (takeRequest h r s)
      else if atOrBefore (e.stop - BitVec.ofNat 32 s.settings.widthMin) s.clk.now = true then
        grantLoop h fuel (starveLate r.nozzle e (takeRequest h r s))
      else sentRequest h r .opn ((s.busOf h).requests.erase r) (fun f => { f with openReq := .inFlight }) s := by
  have hsent := startTransaction_eq (s := s) (h := h) (r := r) fun f => { f with openReq := .inFlight }
  rw [hr, if_pos rfl] at hsent
  have he : findEntry (takeRequest h r s) r.nozzle r.ident = some e := he
  rw [← hsent, grantLoop, hn]
  simp only [hr, he, if_true]
  rfl

/-- A turn that sends nothing goes on to the next request at once (R115). -/
theorem grantLoop_rest {t : State} {b : BusController} {earlier later : List Request} (hb : t.busOf h = b)
    (hi : b.inFlight = none) (hc : b.closeAll = false) (hr : b.requests = earlier ++ later) :
    grantLoop h (earlier.length + later.length) t = grantNext h t := by
  subst hb
  rw [grantNext_of_free hi hc, hr, List.length_append]

end

/-- Settles O23: the grant of a free bus is one turn of the arbiter on the request that goes before the others, and where
that is not sent, the grant of the bus without it. -/
theorem grantTakesCloseAllThenCloseThenOpen : Obligations.GrantTakesCloseAllThenCloseThenOpen := by
  intro s h b
  refine ⟨exec_grant, grantNext_of_nothing, fun hi hc => ?_, fun hi hc earlier later r hb h1 h2 => ?_⟩
  · rw [grantNext_of_closeAll s h hc, BusController.closeAllGranted, hi]
  · intro sent unsent
    have hlength : b.requests.length = earlier.length + later.length + 1 := by
      rw [hb, List.length_append, List.length_cons, Nat.add_assoc]
    have hgrant : grantNext h s = grantLoop h (earlier.length + later.length + 1) s := by
      rw [grantNext_of_free hi hc, hlength]
    refine ⟨fun hr => ?_, fun hr hopens => ?_⟩
    · obtain ⟨hnext, hrest⟩ := nextRequest_eq hb h1 h2 (.inl hr)
      rw [hgrant, grantLoop_of_close hnext hr, hrest]
      rfl
    · obtain ⟨hnext, hrest⟩ := nextRequest_eq hb h1 h2 (.inr hopens)
      have htake : takeRequest h r s = unsent := by
        unfold takeRequest
        rw [hrest]
        rfl
      have hgoes : ∀ t : State, t.bus = unsent.bus →
          grantLoop h (earlier.length + later.length) t = grantNext h t := fun t ht =>
        grantLoop_rest (b := { b with requests := earlier ++ later })
          (by rw [State.busOf, ht]; exact PerChute.get_set_same _ _ _) hi hc rfl
      refine ⟨fun hgone => ?_, fun e he => ?_⟩
      · have hnone : findEntry s r.nozzle r.ident = none := List.find?_eq_none.2 fun e he => by simpa using hgone e he
        rw [hgrant, grantLoop_of_gone hnext hr hnone, htake, hgoes unsent rfl]
      · have hident : e.ident = r.ident := by simpa using List.find?_some he
        rw [hgrant, grantLoop_of_found hnext hr he, htake, hrest]
        refine ⟨fun hp => ?_, fun hp => ⟨fun htime => ?_, fun hlate hh => ?_⟩⟩
        · rw [if_pos hp, hgoes unsent rfl]
        · rw [if_neg (not_not.2 hp), if_neg (by rw [htime]; exact Bool.false_ne_true)]
          rfl
        · rw [if_neg (not_not.2 hp), if_pos hlate, hgoes (starveLate r.nozzle e unsent) rfl]
          subst hh
          simp only [starveLate, removeEntry, hident]
          rfl

end Sys2Proof.Machine
end

section
/-! PURGE, DRY ON and DRY OFF (O44): R106, R107, R153, R163. -/

namespace Sys2Proof.Machine

section
variable {s : State} {addr : Byte}

theorem giveReply_eq (kind : Byte) (a : Answer) (t : State) : giveReply kind a t = replied kind a.result a.payload t := rfl

/-! ### PURGE -/

/-- What a PURGE that is heard does (R153). -/
theorem exec_purge (r w1 w0 sp1 sp0 : Byte) (h : Heard s addr) :
    exec (.purge addr [r, w1, w0, sp1, sp0]) s = .next
      (giveReply 0x06 (cmdPurge [r, w1, w0, sp1, sp0] s).2 (cmdPurge [r, w1, w0, sp1, sp0] s).1) :=
  hostCommand_heard s 0x06 false (cmdPurge [r, w1, w0, sp1, sp0]) h (by simp)

/-- A purge begins with its record, its operating state and turn 0 (R153). -/
theorem startPurge_eq (rounds width spacing : Nat) (s : State) : startPurge rounds width spacing s =
    let p : Purge := ⟨width, spacing, 40 * rounds, 0, s.clk.now, false, []⟩
    makeTurn p { s with
      ctl := { s.ctl with op := .purge, purge := some p }
      link := { s.link with window := none } } := by
  unfold startPurge
  simp only
  rw [enterState_closeWindow]
  rfl

theorem cmdPurge_refused {r w1 w0 sp1 sp0 : Byte} (hr : s.ctl.resetDue = false)
    (h : s.ctl.op ≠ .standby ∨ s.ctl.estop = true) :
    cmdPurge [r, w1, w0, sp1, sp0] s = refuse .notNow s := by
  simp only [cmdPurge, takeOwedReset_of_not_due s hr]
  obtain hop | he := h
  · rw [if_pos hop]
  · rw [if_pos he, ite_self]

/-- The operands as they are clamped, and the answer that says whether one was (R153, R169). -/
theorem cmdPurge_taken {r w1 w0 sp1 sp0 : Byte} (hr : s.ctl.resetDue = false) (hop : s.ctl.op = .standby)
    (he : s.ctl.estop = false) (hw : s.settings.widthMin ≤ s.settings.widthCap) :
    let rounds := max 1 (min 16 r.toNat)
    let width := max s.settings.widthMin (min s.settings.widthCap (num16 w1 w0))
    let spacing := max 1000 (min 50000 (num16 sp1 sp0))
    cmdPurge [r, w1, w0, sp1, sp0] s = (startPurge rounds width spacing s,
      ⟨if rounds = r.toNat ∧ width = num16 w1 w0 ∧ spacing = num16 sp1 sp0 then .done else .clamped,
        BitVec.ofNat 8 rounds :: (bytes16 width ++ bytes16 spacing)⟩) := by
  intro rounds width spacing
  have hclamped := clampedIf_eq
    (b := !(rounds == r.toNat && width == num16 w1 w0 && spacing == num16 sp1 sp0))
    (kept := rounds = r.toNat ∧ width = num16 w1 w0 ∧ spacing = num16 sp1 sp0) (by
      simp only [Bool.not_eq_true', ← Bool.not_eq_true, Bool.and_eq_true, beq_iff_eq, and_assoc])
  rw [← hclamped]
  simp only [cmdPurge, takeOwedReset_of_not_due s hr, hop, he, ne_eq, not_true_eq_false, Bool.false_eq_true, if_false,
    clampNat_eq hw, clampNat_eq (show 1 ≤ 16 by decide), clampNat_eq (show 1000 ≤ 50000 by decide)]
  rfl

/-! ### DRY -/

theorem exec_dryOn (h : Heard s addr) : exec (.dryOn addr []) s = .next
    (if s.ctl.op = .windDown ∨ s.ctl.op = .halt then replied 0x09 .notNow [] s
      else replied 0x09 .done [] (dryOn (closeWindow s))) := by
  obtain ⟨-, hr, -⟩ := id h
  refine (hostCommand_heard s 0x09 false (cmdDryOn []) h (by simp)).trans ?_
  simp only [cmdDryOn, takeOwedReset_of_not_due s hr, dryAvailable]
  cases s.ctl.op <;> rfl

theorem exec_dryOff (h : Heard s addr) : exec (.dryOff addr []) s = .next
    (if s.ctl.op = .windDown ∨ s.ctl.op = .halt then replied 0x09 .notNow [] s
      else replied 0x09 .done [] (dryOff (closeWindow s))) := by
  obtain ⟨-, hr, -⟩ := id h
  refine (hostCommand_heard s 0x09 false (cmdDryOff []) h (by simp)).trans ?_
  simp only [cmdDryOff, takeOwedReset_of_not_due s hr, dryAvailable]
  cases s.ctl.op <;> rfl

/-- A part told to go dry does so, and is dry at once with no WET record (R106). -/
theorem dryOn_eq (s : State) : dryOn s = { s with
    ctl := if s.ctl.goingDry || s.ctl.dry then s.ctl
      else if anyWet s then { s.ctl with goingDry := true } else { s.ctl with dry := true, goingDry := false } } := by
  unfold dryOn concludeDry
  have hwet : anyWet { s with ctl := { s.ctl with goingDry := true } } = anyWet s := rfl
  split
  · rfl
  · simp only [hwet]
    cases anyWet s <;> rfl

end

/-- Settles O44: each command that is heard by its own equation. -/
theorem purgeAndDryCommands : Obligations.PurgeAndDryCommands := by
  intro s addr r w1 w0 sp1 sp0 h hw
  obtain ⟨-, hr, -⟩ := id h
  refine ⟨fun hrefused => ?_, fun hop he => ?_, fun hout => ?_, fun hwind hhalt => ?_⟩
  · rw [exec_purge r w1 w0 sp1 sp0 h, cmdPurge_refused hr hrefused]
    rfl
  · intro rounds width spacing
    rw [exec_purge r w1 w0 sp1 sp0 h, cmdPurge_taken hr hop he hw, startPurge_eq, giveReply_eq]
  · rw [exec_dryOn h, exec_dryOff h, if_pos hout, if_pos hout]
    exact ⟨rfl, rfl⟩
  · have hin : ¬(s.ctl.op = .windDown ∨ s.ctl.op = .halt) := fun hout => hout.elim hwind hhalt
    rw [exec_dryOn h, exec_dryOff h, if_neg hin, if_neg hin, dryOn_eq]
    exact ⟨rfl, rfl⟩

end Sys2Proof.Machine
end

section
/-! The commands of a valve bus (O59): each bus carries those of its own chute's nozzles alone, and none waits where it
is idle (R112, R114, R115). What each operation on the buses keeps of that. -/

namespace Sys2Proof.Machine

/-! ### One bus -/

/-- The requests of a bus, and the OPEN or CLOSE it carries, are of nozzles of chute `h` (R112, R114). -/
def BusController.OwnWork (h : Chute) (b : BusController) : Prop :=
  (∀ r ∈ b.requests, chuteOf r.nozzle = h) ∧
    ∀ t, b.inFlight = some t → t.kind ≠ .closeAll → chuteOf t.nozzle = h

theorem BusController.OwnWork.of_request {h : Chute} {b : BusController} {r : Request} (hb : b.OwnWork h)
    (hr : r ∈ b.requests) : chuteOf r.nozzle = h := hb.1 r hr

theorem BusController.OwnWork.of_inFlight {h : Chute} {b : BusController} {t : Transaction} (hb : b.OwnWork h)
    (ht : b.inFlight = some t) (hk : t.kind ≠ .closeAll) : chuteOf t.nozzle = h := hb.2 t ht hk

/-- With some requests left, or none, a bus carries what it carried. -/
theorem BusController.OwnWork.of_subset {h : Chute} {b : BusController} {l : List Request} (hb : b.OwnWork h)
    (hl : l ⊆ b.requests) : BusController.OwnWork h { b with requests := l } :=
  ⟨fun _ hr => hb.of_request (hl hr), fun _ => hb.of_inFlight⟩

/-- A bus that becomes free. -/
theorem BusController.OwnWork.freed {h : Chute} {b : BusController} (hb : b.OwnWork h) :
    BusController.OwnWork h { b with inFlight := none } := ⟨fun _ => hb.of_request, nofun⟩

/-- A bus that sends, with the requests it had or some of them. -/
theorem BusController.OwnWork.sending {h : Chute} {b b' : BusController} {t : Transaction} (hb : b.OwnWork h)
    (hr : b'.requests ⊆ b.requests) (hs : b'.inFlight = some t) (ht : t.kind ≠ .closeAll → chuteOf t.nozzle = h) :
    b'.OwnWork h := by
  refine ⟨fun _ hx => hb.of_request (hr hx), fun x hx hk => ?_⟩
  rw [hs] at hx
  cases hx
  exact ht hk

/-- An idle bus has nothing waiting (R114, R115). -/
def BusController.Settled (b : BusController) : Prop := b.inFlight = none → b.closeAll = false ∧ b.requests = []

theorem BusController.settled_of_inFlight {b : BusController} {t : Transaction} (h : b.inFlight = some t) : b.Settled :=
  fun hn => by simp [h] at hn

theorem BusController.closeAllGranted_settled (b : BusController) : b.closeAllGranted.Settled := by
  unfold closeAllGranted
  split
  · exact settled_of_inFlight ‹_›
  · exact settled_of_inFlight rfl

theorem BusController.OwnWork.closeAllGranted {h : Chute} {b : BusController} (hb : b.OwnWork h) :
    b.closeAllGranted.OwnWork h := by
  unfold BusController.closeAllGranted
  split
  · exact hb
  · exact hb.sending (List.Subset.refl _) rfl fun hk => absurd rfl hk

theorem BusController.OwnWork.warm {h : Chute} {b : BusController} (hb : b.OwnWork h) (now : Time) :
    (b.warm now).OwnWork h := by
  refine ⟨nofun, fun t ht hk => ?_⟩
  obtain ⟨x, hx, rfl⟩ := Option.map_eq_some_iff.1 ht
  exact hb.of_inFlight (t := x) hx hk

/-! ### The request that is granted -/

theorem firstRequest_mem {l : List Request} {r : Request} (h : firstRequest l = some r) : r ∈ l := by
  cases l with
  | nil => cases h
  | cons a l =>
    cases h
    exact foldl_mem grantBefore l a

theorem nextRequest_mem {b : BusController} {r : Request} (h : nextRequest b = some r) : r ∈ b.requests := by
  unfold nextRequest at h
  split at h
  · cases h
    exact List.mem_of_mem_filter (firstRequest_mem ‹_›)
  · exact firstRequest_mem h

/-- With a request waiting one is granted. -/
theorem nextRequest_none {b : BusController} (h : nextRequest b = none) : b.requests = [] := by
  unfold nextRequest at h
  split at h
  · cases h
  · cases hb : b.requests with
    | nil => rfl
    | cons a l => simp [hb, firstRequest] at h

/-! ### The four buses -/

/-- Every bus carries the commands of its own chute. -/
def OwnWork (p : PerChute BusController) : Prop := ∀ h, (p.get h).OwnWork h

/-- Every bus carries the commands of its own chute, and none waits at an idle one. -/
structure BusesFit (p : PerChute BusController) : Prop where
  own : OwnWork p
  settled : ∀ h, (p.get h).Settled

/-- The buses fit but for chute `k`'s, which may have been handed a request that is not granted yet. -/
structure FitBut (k : Chute) (p : PerChute BusController) : Prop where
  own : OwnWork p
  others : ∀ h, h ≠ k → (p.get h).Settled

section
variable {p : PerChute BusController} {k : Chute} {b : BusController}

theorem BusesFit.but (h : BusesFit p) (k : Chute) : FitBut k p := ⟨h.own, fun j _ => h.settled j⟩

theorem OwnWork.set (h : OwnWork p) (hb : b.OwnWork k) : OwnWork (p.set k b) := by
  intro j
  by_cases hj : j = k
  · subst hj
    rwa [PerChute.get_set_same]
  · rw [PerChute.get_set_other _ _ _ _ hj]
    exact h j

theorem FitBut.set (h : FitBut k p) (hb : b.OwnWork k) : FitBut k (p.set k b) := by
  refine ⟨h.own.set hb, fun j hj => ?_⟩
  rw [PerChute.get_set_other _ _ _ _ hj]
  exact h.others j hj

theorem FitBut.fit (h : FitBut k p) (hb : b.OwnWork k) (hs : b.Settled) : BusesFit (p.set k b) := by
  refine ⟨h.own.set hb, fun j => ?_⟩
  by_cases hj : j = k
  · subst hj
    rwa [PerChute.get_set_same]
  · rw [PerChute.get_set_other _ _ _ _ hj]
    exact h.others j hj

theorem BusesFit.set (h : BusesFit p) (hb : b.OwnWork k) (hs : b.Settled) : BusesFit (p.set k b) :=
  (h.but k).fit hb hs

/-- With a CLOSE ALL granted wherever nothing is in flight, the buses fit (R114, R123). -/
theorem OwnWork.closeAllGranted {f : BusController → BusController} (hf : ∀ h b, b.OwnWork h → (f b).OwnWork h)
    (h : OwnWork p) : BusesFit (p.map fun _ b => (f b).closeAllGranted) := by
  constructor
  · intro j
    rw [PerChute.get_map]
    exact (hf j _ (h j)).closeAllGranted
  · intro j
    rw [PerChute.get_map]
    exact BusController.closeAllGranted_settled _

end

/-! ### The grants (R115) -/

section
variable {s : State} {h : Chute}

/-- A bus that takes the place of chute `h`'s after its grant: nothing waits there unless something is in flight, and it
carries what it carried. -/
def Granted (s : State) (h : Chute) (t : State) : Prop :=
  ∃ b, t.bus = s.bus.set h b ∧ b.Settled ∧ ((s.busOf h).OwnWork h → b.OwnWork h)

theorem sentRequest_granted {r : Request} (hr : r ∈ (s.busOf h).requests) (kind : BusKind)
    (f : FiringRecord → FiringRecord) :
    Granted s h (sentRequest h r kind ((s.busOf h).requests.erase r) f s) := by
  refine ⟨_, rfl, BusController.settled_of_inFlight rfl, fun hown => ?_⟩
  exact hown.sending List.erase_subset rfl fun _ => hown.of_request hr

/-- What is granted after a request is taken out without a send. -/
theorem Granted.of_taken {r : Request} {t u : State} (hu : u.bus = (takeRequest h r s).bus) (ht : Granted u h t) :
    Granted s h t := by
  have hu : u.bus = s.bus.set h { s.busOf h with requests := (s.busOf h).requests.erase r } := hu
  obtain ⟨b, hb, hsettled, hown⟩ := ht
  refine ⟨b, by rw [hb, hu, PerChute.set_set], hsettled, fun howns => hown ?_⟩
  rw [State.busOf, hu, PerChute.get_set_same]
  exact howns.of_subset List.erase_subset

/-- One grant for each request is enough (R115). -/
theorem grantLoop_granted (fuel : Nat) (s : State) (hi : (s.busOf h).inFlight = none)
    (hc : (s.busOf h).closeAll = false) (hf : (s.busOf h).requests.length ≤ fuel) :
    Granted s h (grantLoop h fuel s) := by
  have hnothing : (s.busOf h).requests = [] → Granted s h s := fun hr =>
    ⟨s.busOf h, (PerChute.set_get _ _).symm, fun _ => ⟨hc, hr⟩, id⟩
  induction fuel generalizing s with
  | zero => exact hnothing (List.length_eq_zero_iff.1 (Nat.le_zero.1 hf))
  | succ fuel ih =>
    cases hn : nextRequest (s.busOf h) with
    | none =>
      rw [grantLoop, hn]
      exact hnothing (nextRequest_none hn)
    | some r =>
      have hr := nextRequest_mem hn
      have hrest : ∀ u : State, u.bus = (takeRequest h r s).bus → Granted s h (grantLoop h fuel u) := by
        intro u hu
        have hbus : u.busOf h = { s.busOf h with requests := (s.busOf h).requests.erase r } := by
          rw [State.busOf, hu]
          exact PerChute.get_set_same _ _ _
        refine Granted.of_taken hu (ih u ?_ ?_ ?_ fun hnil => ?_)
        · rw [hbus]; exact hi
        · rw [hbus]; exact hc
        · rw [hbus, List.length_erase_of_mem hr]
          exact Nat.sub_le_of_le_add hf
        · exact ⟨u.busOf h, (PerChute.set_get _ _).symm, fun _ => ⟨by rw [hbus]; exact hc, hnil⟩, id⟩
      cases hopen : r.isOpen with
      | false =>
        rw [grantLoop_of_close hn hopen]
        exact sentRequest_granted hr _ _
      | true =>
        cases he : findEntry s r.nozzle r.ident with
        | none =>
          rw [grantLoop_of_gone hn hopen he]
          exact hrest _ rfl
        | some e =>
          rw [grantLoop_of_found hn hopen he]
          split_ifs
          · exact hrest _ rfl
          · exact hrest _ rfl
          · exact sentRequest_granted hr _ _

theorem grantNext_granted (s : State) (h : Chute) : Granted s h (grantNext h s) := by
  cases hi : (s.busOf h).inFlight with
  | some t =>
    rw [grantNext_of_nothing (.inl (by simp [hi]))]
    exact ⟨s.busOf h, (PerChute.set_get _ _).symm, BusController.settled_of_inFlight hi, id⟩
  | none =>
    cases hc : (s.busOf h).closeAll with
    | true =>
      rw [grantNext_of_closeAll s h hc]
      exact ⟨_, rfl, BusController.closeAllGranted_settled _, BusController.OwnWork.closeAllGranted⟩
    | false =>
      rw [grantNext_of_free hi hc]
      exact grantLoop_granted _ s hi hc le_rfl

/-- The grant of the bus that was handed a request leaves the buses fitting. -/
theorem FitBut.grantNext (hs : FitBut h s.bus) : BusesFit (grantNext h s).bus := by
  obtain ⟨b, hb, hsettled, hown⟩ := grantNext_granted s h
  rw [hb]
  exact hs.fit (hown (hs.own h)) hsettled

theorem OwnWork.grantNext (hs : OwnWork s.bus) (h : Chute) : OwnWork (grantNext h s).bus := by
  obtain ⟨b, hb, -, hown⟩ := grantNext_granted s h
  rw [hb]
  exact hs.set (hown (hs h))

/-- A grant settles its own bus and leaves the others as they are. -/
theorem grantNext_settled (j : Chute) (hj : j = h ∨ (s.busOf j).Settled) : ((grantNext h s).busOf j).Settled := by
  obtain ⟨b, hb, hsettled, -⟩ := grantNext_granted s h
  rw [State.busOf, hb]
  by_cases hjh : j = h
  · subst hjh
    rwa [PerChute.get_set_same]
  · rw [PerChute.get_set_other _ _ _ _ hjh]
    exact hj.resolve_left hjh

/-- The grants of all four buses leave them fitting. -/
theorem OwnWork.grantAll (hs : OwnWork s.bus) : BusesFit (grantAll s).bus := by
  refine ⟨(((hs.grantNext 0).grantNext 1).grantNext 2).grantNext 3, fun j => ?_⟩
  match j with
  | 0 => exact grantNext_settled 0 (.inr (grantNext_settled 0 (.inr (grantNext_settled 0 (.inr
      (grantNext_settled 0 (.inl rfl)))))))
  | 1 => exact grantNext_settled 1 (.inr (grantNext_settled 1 (.inr (grantNext_settled 1 (.inl rfl)))))
  | 2 => exact grantNext_settled 2 (.inr (grantNext_settled 2 (.inl rfl)))
  | 3 => exact grantNext_settled 3 (.inl rfl)

/-- A transaction that ends makes its bus free, and the next request is granted (R115, R121). -/
theorem FitBut.freeBus (hs : FitBut h s.bus) : BusesFit (freeBus h s).bus :=
  FitBut.grantNext (s := s.setBus h { s.busOf h with inFlight := none }) (hs.set (hs.own h).freed)

/-! ### Requests handed over and withdrawn -/

theorem handRequest_fitBut {r : Request} (hs : FitBut h s.bus) (hr : chuteOf r.nozzle = h) :
    FitBut h (handRequest r s).bus := by
  subst hr
  refine hs.set ⟨fun x hx => ?_, fun _ => (hs.own _).of_inFlight⟩
  obtain hx | hx := List.mem_append.1 hx
  · exact (hs.own _).of_request hx
  · rw [List.mem_singleton.1 hx]

theorem withdrawOpen_fitBut {g ident : Nat} (hs : FitBut (chuteOf g) s.bus) :
    FitBut (chuteOf g) (withdrawOpen g ident s).bus :=
  hs.set ((hs.own _).of_subset (List.filter_subset_self _))

theorem closeEarly_fitBut {g : Nat} {e : Entry} (hs : FitBut h s.bus) (hg : chuteOf g = h) :
    FitBut h (closeEarly g e s).bus := by
  subst hg
  unfold closeEarly
  simp only
  split
  · exact hs
  · refine handRequest_fitBut ?_ rfl
    split
    · exact withdrawOpen_fitBut (s := s.setOpenCount _ _) hs
    · exact hs

theorem admitEntry_fitBut (g : Nat) (x : Entry) (hs : FitBut (chuteOf g) s.bus) :
    FitBut (chuteOf g) (admitEntry g x s).bus := by
  unfold admitEntry
  simp only
  split
  · exact handRequest_fitBut (s := updateEntry g x.ident _ (s.setOpenCount _ _)) hs rfl
  · exact hs

theorem victim_mem {l : List (Nat × Entry)} {v : Nat × Entry} (h : victim l = some v) : v ∈ l := by
  cases l with
  | nil => cases h
  | cons a l =>
    cases h
    exact foldl_mem cutBefore l a

/-- A start hands requests to its own chute's bus alone: the victim is a nozzle of the same chute (R98). -/
theorem judgeStart_fitBut (g : Nat) (x : Entry) (hs : FitBut (chuteOf g) s.bus) :
    FitBut (chuteOf g) (judgeStart g x s).bus := by
  unfold judgeStart arbitrate
  simp only
  split
  · exact admitEntry_fitBut g x hs
  · split
    · split
      · rename_i v hv
        split
        · exact admitEntry_fitBut g x (closeEarly_fitBut (s := countChute _ .cut s) hs
            (chuteOf_of_mem_holders (victim_mem hv)))
        · exact hs
      · exact hs
    · exact hs

theorem endEntry_fitBut (g : Nat) (e : Entry) (hs : FitBut (chuteOf g) s.bus) :
    FitBut (chuteOf g) (endEntry g e s).bus := by
  unfold endEntry
  simp only
  split
  · exact handRequest_fitBut (s := updateEntry g e.ident _ (s.setOpenCount _ _)) hs rfl
  · exact hs

/-- An OPEN that completes hands a CLOSE to its own chute's bus alone (R101). -/
theorem openCompleted_fitBut (g : Nat) (e : Entry) (hs : FitBut (chuteOf g) s.bus) :
    FitBut (chuteOf g) (openCompleted g e s).bus := by
  unfold openCompleted
  simp only
  split
  · exact handRequest_fitBut (s := updateEntry g e.ident _ (s.setOpenCount _ _)) hs rfl
  · exact hs

theorem dispatchEffect_fitBut (t : Transaction) (result : LastResult) (hs : FitBut (chuteOf t.nozzle) s.bus) :
    FitBut (chuteOf t.nozzle) (dispatchEffect t result s).bus := by
  unfold dispatchEffect
  split
  · unfold dispatchOpen
    split
    · exact hs
    · simp only
      generalize (if result = LastResult.done then ChuteCounter.opened else ChuteCounter.unconfirmed) = c
      split
      · exact openCompleted_fitBut (s := countChute _ c s) _ _ hs
      · exact hs
  · unfold dispatchClose
    split
    · split <;> exact hs
    · exact hs
  · exact hs

/-- The expiry of the wind-down limit hands each chute's CLOSEs to its own bus (R77). -/
theorem OwnWork.reduceQueues (hs : OwnWork s.bus) : OwnWork (reduceQueues s).bus := by
  intro j
  have hget : (Machine.reduceQueues s).bus.get j = _ := PerChute.get_map _ s.bus j
  rw [hget]
  refine ⟨fun r hr => ?_, fun _ => (hs j).of_inFlight⟩
  obtain hr | hr := List.mem_append.1 hr
  · exact (hs j).of_request (List.mem_of_mem_filter hr)
  · exact chuteOf_of_mem_reduceRequests hr

/-! ### Sends -/

/-- A send of the transaction in flight, on whatever lane, leaves the bus in use (R113). -/
theorem BusesFit.send {t t' : Transaction} (hs : BusesFit s.bus) (ht : (s.busOf h).inFlight = some t)
    (hk : t'.kind = t.kind) (hn : t'.nozzle = t.nozzle) (lane : Lane) : BusesFit (send h t' lane s).bus := by
  have hown := hs.own h
  exact hs.set (hown.sending (List.Subset.refl _) rfl fun hne =>
    (congrArg chuteOf hn).trans (hown.of_inFlight ht (hk ▸ hne))) (BusController.settled_of_inFlight rfl)

theorem BusesFit.commandSent (hs : BusesFit s.bus) (h : Chute) : BusesFit (commandSent h s).bus := by
  unfold Machine.commandSent
  simp only
  split
  · rename_i t ht
    split
    · have hown := hs.own h
      exact hs.set (hown.sending (List.Subset.refl _) rfl fun hne => hown.of_inFlight (t := t) ht hne)
        (BusController.settled_of_inFlight rfl)
    · exact hs
  · exact hs

end

end Sys2Proof.Machine
end

section
/-! The work of the part and its operating state (O59): R147, R148, R151, R157, R159, R162. The parts of the
invariant while RSTN is released, and what keeps each of them. -/

namespace Sys2Proof.Machine

/-! ### Empty queues stay empty -/

/-- No dispatcher has an entry. -/
def NoEntries (s : State) : Prop := s.firing.queues = []

theorem NoEntries.queue {s : State} (h : NoEntries s) (g : Nat) : s.queue g = [] := by
  rw [State.queue, show s.firing.queues = [] from h]
  rfl

theorem NoEntries.setQueue {s : State} (h : NoEntries s) (g : Nat) : NoEntries (s.setQueue g []) := by
  show Tab.set [] s.firing.queues g [] = []
  rw [show s.firing.queues = [] from h]
  rfl

theorem removeEntry_keeps_none (g ident : Nat) : Keeps NoEntries (removeEntry g ident) := by
  intro s h
  unfold removeEntry
  rw [h.queue g]
  exact h.setQueue g

theorem updateEntry_keeps_none (g ident : Nat) (f : Entry → Entry) : Keeps NoEntries (updateEntry g ident f) := by
  intro s h
  unfold updateEntry
  rw [h.queue g]
  exact h.setQueue g

theorem abandonWaiting_keeps_none (g : Nat) : Keeps NoEntries (abandonWaiting g) := by
  intro s h
  unfold abandonWaiting
  rw [h.queue g]
  exact h.setQueue g

theorem grantLoop_keeps_none (h : Chute) (fuel : Nat) : Keeps NoEntries (grantLoop h fuel) := by
  intro s hs
  induction fuel generalizing s with
  | zero => exact hs
  | succ fuel ih =>
    unfold grantLoop
    split
    · exact hs
    · simp only
      split
      · split
        · exact ih _ hs
        · split
          · exact ih _ hs
          · split
            · exact ih _ (removeEntry_keeps_none _ _ (State.setOpenCount (takeRequest h _ s) _ _) hs)
            · exact updateEntry_keeps_none _ _ _ (takeRequest h _ s) hs
      · exact updateEntry_keeps_none _ _ _ (takeRequest h _ s) hs

theorem grantNext_keeps_none (h : Chute) : Keeps NoEntries (grantNext h) := by
  intro s hs
  unfold grantNext
  simp only
  split
  · exact hs
  · split
    · exact hs
    · exact grantLoop_keeps_none h _ s hs

theorem makeFailed_keeps_none (g : Nat) (cause : FailureCause) : Keeps NoEntries (makeFailed g cause) := by
  intro s h
  unfold makeFailed
  simp only
  split
  · exact h
  · split
    · exact abandonWaiting_keeps_none g (setNotice _ _ (s.setNozzle g _)) h
    · exact h

theorem nozzleEffect_keeps_none (t : Transaction) (result : LastResult) (m : Nat) :
    Keeps NoEntries (nozzleEffect t result m) := by
  intro s h
  unfold nozzleEffect
  split
  · exact h
  · unfold openNoReply
    simp only
    split
    · exact makeFailed_keeps_none _ _ (s.setNozzle _ _) h
    · exact h
  · exact makeFailed_keeps_none _ _ (s.setNozzle _ _) h
  · exact h
  · exact makeFailed_keeps_none _ _ (s.setNozzle _ _) h
  · exact makeFailed_keeps_none _ _ (s.setNozzle _ _) h
  · exact h

/-- With no entry left a completion finds none to act on (R62). -/
theorem dispatchEffect_keeps_none (t : Transaction) (result : LastResult) :
    Keeps NoEntries (dispatchEffect t result) := by
  intro s h
  have hfind : findEntry s t.nozzle t.ident = none := by
    rw [findEntry, h.queue]
    rfl
  unfold dispatchEffect
  split
  · rwa [dispatchOpen, hfind]
  · rwa [dispatchClose, hfind]
  · exact h

/-! ### The records and the operating state -/

/-- No sighting is pending. -/
def NoSightings (s : State) : Prop := s.port.intake = [] ∧ s.planner = none ∧ s.verdicts.held = []

/-- What fits the operating state of an awake part: a warm reset owed, the records of a wind-down and of a purge, the
sightings pending, the entries (R147, R151, R157, R162). -/
def Placed (s : State) : Prop :=
  s.ctl.rstn = false ∧ (s.ctl.resetDue = true → s.ctl.op = .halt) ∧
  (s.ctl.windDown.isSome = true ↔ s.ctl.op = .windDown) ∧ (s.ctl.purge.isSome = true ↔ s.ctl.op = .purge) ∧
  (s.ctl.op ≠ .run → s.ctl.op ≠ .windDown → NoSightings s) ∧ (s.ctl.op = .halt → NoEntries s)

/-- Sightings are taken and planned (R13, R147). -/
def Sorting (s : State) : Prop := s.ctl.op = .run ∨ s.ctl.op = .windDown

section
variable {s t : State}

theorem Placed.windDown_iff (h : Placed s) : s.ctl.windDown.isSome = true ↔ s.ctl.op = .windDown := by
  obtain ⟨-, -, hwind, -⟩ := h
  exact hwind

theorem Placed.purge_iff (h : Placed s) : s.ctl.purge.isSome = true ↔ s.ctl.op = .purge := by
  obtain ⟨-, -, -, hpurge, -⟩ := h
  exact hpurge

theorem Placed.sorting_of_pending (h : Placed s) (hp : ¬NoSightings s) : Sorting s := by
  obtain ⟨-, -, -, -, hsightings, -⟩ := h
  by_contra hs
  exact hp (hsightings (fun hr => hs (.inl hr)) fun hw => hs (.inr hw))

theorem Placed.sorting_of_planner (h : Placed s) {r : PlanRecord} (hr : s.planner = some r) : Sorting s :=
  h.sorting_of_pending fun ⟨_, hn, _⟩ => by simp [hn] at hr

theorem Placed.not_halt_of_queue (h : Placed s) {g : Nat} {e : Entry} (he : e ∈ s.queue g) : s.ctl.op ≠ .halt := by
  obtain ⟨-, -, -, -, -, hentries⟩ := h
  intro hop
  rw [(hentries hop).queue g] at he
  cases he

/-- What may change besides: the set of a purge, and, where the operating state allows it, sightings and entries. -/
theorem Placed.of_purge (h : Placed s) (hc : t.ctl = { s.ctl with purge := t.ctl.purge })
    (hp : t.ctl.purge.isSome = s.ctl.purge.isSome)
    (hsightings : s.ctl.op ≠ .run → s.ctl.op ≠ .windDown → NoSightings s → NoSightings t)
    (hentries : s.ctl.op = .halt → NoEntries s → NoEntries t) : Placed t := by
  obtain ⟨hawake, hreset, hwind, hpurge, hs, he⟩ := h
  unfold Placed
  rw [hp]
  rw [hc]
  exact ⟨hawake, hreset, hwind, hpurge, fun hr hw => hsightings hr hw (hs hr hw), fun ho => hentries ho (he ho)⟩

/-- While sightings are taken, only the state controller's block is to be watched. -/
theorem Placed.of_sorting (h : Placed s) (hs : Sorting s) (hc : t.ctl = { s.ctl with purge := t.ctl.purge })
    (hp : t.ctl.purge.isSome = s.ctl.purge.isSome) : Placed t := by
  refine h.of_purge hc hp (fun hr hw => ?_) fun ho => ?_
  · exact absurd hs (not_or.2 ⟨hr, hw⟩)
  · obtain hs | hs := hs <;> simp [hs] at ho

/-- What keeps the sightings and an empty table of queues keeps all, where it leaves the state controller alone. -/
theorem Placed.of_ctl (h : Placed s) (hc : t.ctl = s.ctl) (hport : t.port = s.port) (hplan : t.planner = s.planner)
    (hheld : t.verdicts = s.verdicts) (hentries : s.ctl.op = .halt → NoEntries s → NoEntries t) : Placed t :=
  h.of_purge (by rw [hc]) (by rw [hc])
    (fun _ _ hn => by rwa [NoSightings, hport, hplan, hheld]) hentries

end

/-! ### The invariant of an awake part -/

/-- What the end of a wind-down may be judged in: the buses fit, and all but the work left fits the operating state. -/
def WorkSound (s : State) : Prop := Placed s ∧ BusesFit s.bus

/-- The invariant of an awake part: a wind-down has work left too (R159). -/
def AtWork (s : State) : Prop := WorkSound s ∧ (s.ctl.op = .windDown → ¬NothingLeft s)

theorem busesFit_iff (s : State) : BusesFit s.bus ↔ ∀ h : Chute,
    ((s.busOf h).inFlight = none → (s.busOf h).closeAll = false ∧ (s.busOf h).requests = []) ∧
    (∀ r ∈ (s.busOf h).requests, chuteOf r.nozzle = h) ∧
    ∀ t, (s.busOf h).inFlight = some t → t.kind ≠ .closeAll → chuteOf t.nozzle = h :=
  ⟨fun ⟨hown, hsettled⟩ h => ⟨hsettled h, hown h⟩, fun h => ⟨fun j => (h j).2, fun j => (h j).1⟩⟩

/-- While RSTN is released the invariant is the one of an awake part. -/
theorem workFitsState_iff_of_awake {s : State} (hs : Awake s) : WorkFitsState s ↔ AtWork s := by
  have hr : s.ctl.rstn = false := hs
  unfold WorkFitsState AtWork WorkSound Placed
  rw [busesFit_iff, hr]
  simp only [Bool.false_eq_true, false_implies, and_true, true_and, NoSightings, NoEntries]
  tauto

/-- While RSTN is low the part is in STANDBY without sightings and entries (R148). -/
theorem workFitsState_iff_of_held {s : State} (hs : s.ctl.rstn = true) : WorkFitsState s ↔
    BusesFit s.bus ∧ s.ctl.op = .standby ∧ s.ctl.resetDue = false ∧ s.ctl.windDown = none ∧ s.ctl.purge = none ∧
      NoSightings s ∧ NoEntries s := by
  unfold WorkFitsState
  rw [busesFit_iff, hs]
  constructor
  · rintro ⟨-, hreset, hbus, hwind, hpurge, hsightings, -, hheld⟩
    obtain ⟨hop, hentries⟩ := hheld rfl
    rw [hop] at hreset hwind hpurge hsightings
    refine ⟨hbus, hop, ?_, ?_, ?_, hsightings nofun nofun, hentries⟩
    · simpa using hreset
    · simpa using hwind
    · simpa using hpurge
  · rintro ⟨hbus, hop, hreset, hwind, hpurge, hsightings, hentries⟩
    rw [hop, hreset, hwind, hpurge]
    exact ⟨nofun, nofun, hbus, by simp, by simp, fun _ _ => hsightings, nofun, fun _ => ⟨rfl, hentries⟩⟩

section
variable {s : State}

theorem WorkSound.placed (h : WorkSound s) : Placed s := h.1

theorem WorkSound.fits (h : WorkSound s) : BusesFit s.bus := h.2

theorem WorkSound.awake (h : WorkSound s) : Awake s := h.placed.1

theorem AtWork.sound (h : AtWork s) : WorkSound s := h.1

theorem AtWork.placed (h : AtWork s) : Placed s := h.sound.placed

theorem AtWork.fits (h : AtWork s) : BusesFit s.bus := h.sound.fits

theorem AtWork.workLeft (h : AtWork s) : s.ctl.op = .windDown → ¬NothingLeft s := h.2

theorem WorkSound.atWork_of_op_ne (h : WorkSound s) (ho : s.ctl.op ≠ .windDown) : AtWork s :=
  ⟨h, fun hw => absurd hw ho⟩

/-! ### The ends of a wind-down, of a purge and of going dry -/

/-- A warm reset leaves STANDBY or HALT without work, its CLOSE ALLs granted (R161). -/
theorem warmReset_atWork (hs : Awake s) (hb : OwnWork s.bus) : AtWork (warmReset s) := by
  rw [warmReset_eq]
  refine ⟨⟨⟨hs, nofun, ?_, ?_, fun _ _ => ⟨rfl, rfl, rfl⟩, fun _ => rfl⟩,
    hb.closeAllGranted fun _ _ hown => hown.warm _⟩, ?_⟩
  all_goals
    simp only
    cases s.ctl.estop <;> simp

theorem takeOwedReset_atWork (h : AtWork s) : AtWork (takeOwedReset s) ∧ (takeOwedReset s).ctl.resetDue = false := by
  unfold takeOwedReset
  split
  · exact ⟨warmReset_atWork h.sound.awake h.fits.own, by rw [warmReset_eq]⟩
  · exact ⟨h, Bool.eq_false_of_not_eq_true ‹_›⟩

theorem endWindDown_atWork (h : WorkSound s) : AtWork (endWindDown s) := by
  obtain ⟨he, hnot⟩ | ⟨he, -, -⟩ := endWindDown_cases s
  · rw [he]
    exact ⟨h, fun ho hn => hnot ⟨ho, hn⟩⟩
  · rw [he]
    exact warmReset_atWork h.awake h.fits.own

theorem concludeDry_sound (h : WorkSound s) : WorkSound (concludeDry s) := by
  unfold concludeDry
  split <;> exact h

theorem completePurge_sound (h : WorkSound s) (ho : s.ctl.op = .purge) : WorkSound (completePurge s) := by
  obtain ⟨⟨hawake, hreset, hwind, -, hsightings, -⟩, hbus⟩ := h
  rw [ho] at hreset hwind hsightings
  rw [completePurge_frame]
  refine ⟨⟨hawake, fun hd => ?_, ?_, by simp, fun _ _ => hsightings nofun nofun, nofun⟩, hbus⟩
  · cases hreset hd
  · simpa using hwind

/-- The completion of a purge ends it in STANDBY, where nothing else is wound up (R155). -/
theorem concludePurge_sound (h : WorkSound s) : WorkSound (concludePurge s) := by
  unfold concludePurge
  split
  · exact h
  · rename_i p hp
    have ho : s.ctl.op = .purge := h.placed.purge_iff.1 (by rw [hp]; rfl)
    simp only
    split
    · exact completePurge_sound h ho
    · refine ⟨h.placed.of_purge (s := s) rfl ?_ (fun _ _ => id) (fun _ => id), h.fits⟩
      rw [hp]
      rfl

theorem conclude_atWork (h : WorkSound s) : AtWork (conclude s) :=
  endWindDown_atWork (concludePurge_sound (concludeDry_sound h))

theorem concludeDry_atWork (h : AtWork s) : AtWork (concludeDry s) := by
  unfold concludeDry
  split <;> exact h

/-- A purge that completes was no wind-down. -/
theorem concludePurge_atWork (h : AtWork s) : AtWork (concludePurge s) := by
  cases hp : s.ctl.purge with
  | none =>
    unfold concludePurge
    rwa [hp]
  | some p =>
    have ho : s.ctl.op = .purge := h.placed.purge_iff.1 (by rw [hp]; rfl)
    refine (concludePurge_sound h.sound).atWork_of_op_ne ?_
    obtain hop | hop := concludePurge_op s
    · rw [hop, ho]
      exact nofun
    · rw [hop]
      exact nofun

/-- What a grant's bus is handed is granted, and what ends with it is concluded. -/
theorem grant_atWork {k : Chute} (hp : Placed s) (hb : FitBut k s.bus) : AtWork (conclude (grantNext k s)) := by
  refine conclude_atWork ⟨hp.of_ctl ?_ ?_ ?_ ?_ fun _ => grantNext_keeps_none k s, hb.grantNext⟩
  all_goals rw [grantNext_frame]

/-! ### Offers and placements -/

theorem offer_purge (g : Nat) (c e : Time) (prio : Nat) (o : Origin) (s : State) :
    (offer g c e prio o s).1.ctl.purge.isSome = s.ctl.purge.isSome := by
  unfold offer
  split
  · rfl
  · simp only
    split
    · split <;> rfl
    · split
      · rfl
      · exact Option.isSome_map

theorem placePlan_purge (prio : Nat) (plan : List PlanFiring) (s : State) :
    (placePlan prio plan s).1.ctl.purge.isSome = s.ctl.purge.isSome := by
  have hone : ∀ f u, (placeOne prio u f).1.ctl.purge.isSome = u.ctl.purge.isSome := by
    intro f u
    have ho := offer_purge f.nozzle f.command f.stop prio .sighting u
    unfold placeOne
    split
    · rfl
    · split
      · rfl
      · revert ho
        generalize offer f.nozzle f.command f.stop prio .sighting u = offered
        obtain ⟨t, _ | _ | _ | _⟩ := offered <;> exact id
  induction plan generalizing s with
  | nil => rfl
  | cons f fs ih => exact (ih _).trans (hone f s)

theorem placeAndCount_purge (h : Chute) (k prio : Nat) (plan : List PlanFiring) (s : State) :
    (placeAndCount h k prio plan s).ctl.purge.isSome = s.ctl.purge.isSome := placePlan_purge prio plan s

theorem applyPolicy_purge (e : HeldEntry) (s : State) : (applyPolicy e s).ctl.purge.isSome = s.ctl.purge.isSome := by
  unfold applyPolicy
  split
  · exact placeAndCount_purge _ _ _ _ s
  · rfl

theorem purgeOffer_purge (width n : Nat) (h : Chute) (s : State) :
    (purgeOffer width n h s).ctl.purge.isSome = s.ctl.purge.isSome := by
  unfold purgeOffer
  simp only
  split
  · have ho := offer_purge (globalId h n) (plus s.clk.now s.settings.leadMin)
      (plus (plus s.clk.now s.settings.leadMin) width) 0 .purge s
    revert ho
    generalize offer (globalId h n) (plus s.clk.now s.settings.leadMin)
      (plus (plus s.clk.now s.settings.leadMin) width) 0 .purge s = offered
    obtain ⟨t, _ | _ | _ | _⟩ := offered
    · exact fun ho => Option.isSome_map.trans ho
    · exact fun ho => Option.isSome_map.trans ho
    · exact id
    · exact id
  · rfl

/-- The placement of a plan, while sightings are taken. -/
theorem placeAndCount_sound (h : WorkSound s) (hs : Sorting s) (k : Chute) (cls prio : Nat) (plan : List PlanFiring) :
    WorkSound (placeAndCount k cls prio plan s) := by
  refine ⟨h.placed.of_sorting hs ?_ (placeAndCount_purge k cls prio plan s), ?_⟩
  · rw [placeAndCount_frame]
  · rw [placeAndCount_frame]
    exact h.fits

theorem applyPolicy_sound (h : WorkSound s) (hs : Sorting s) (e : HeldEntry) : WorkSound (applyPolicy e s) := by
  refine ⟨h.placed.of_sorting hs ?_ (applyPolicy_purge e s), ?_⟩
  · rw [applyPolicy_frame]
  · rw [applyPolicy_frame]
    exact h.fits

/-- Whatever is done to sightings and entries while sightings are taken. -/
theorem WorkSound.of_sorting {t : State} (h : WorkSound s) (hs : Sorting s) (hc : t.ctl = s.ctl) (hb : t.bus = s.bus) :
    WorkSound t :=
  ⟨h.placed.of_sorting hs (by rw [hc]) (by rw [hc]), by rw [hb]; exact h.fits⟩

end

end Sys2Proof.Machine
end

section
/-! The events of the part and its inputs keep the work fitting the operating state (O59). -/

namespace Sys2Proof.Machine

section
variable {s : State}

/-! ### Starts, ends, completions -/

theorem entryStart_keeps_atWork (g : Nat) : Keeps AtWork (entryStart g) := by
  intro s h
  unfold entryStart
  split
  · rename_i x hx
    have hop := h.placed.not_halt_of_queue (List.mem_of_find?_eq_some hx)
    refine grant_atWork (h.placed.of_ctl ?_ ?_ ?_ ?_ fun ho => absurd ho hop) (judgeStart_fitBut g x (h.fits.but _))
    all_goals rw [judgeStart_frame]
  · exact h

theorem entryEnd_keeps_atWork (g : Nat) : Keeps AtWork (entryEnd g) := by
  intro s h
  unfold entryEnd
  split
  · rename_i e he
    have hop := h.placed.not_halt_of_queue (List.mem_of_find?_eq_some he)
    refine grant_atWork (h.placed.of_ctl ?_ ?_ ?_ ?_ fun ho => absurd ho hop) (endEntry_fitBut g e (h.fits.but _))
    all_goals rw [endEntry_frame]
  · exact h

/-- A bus that is freed grants, and the endings follow. -/
theorem freeBus_atWork {k : Chute} (hp : Placed s) (hb : FitBut k s.bus) : AtWork (conclude (freeBus k s)) :=
  grant_atWork (s := s.setBus k { s.busOf k with inFlight := none }) hp (hb.set (hb.own k).freed)

/-- A lane flip leaves what the bus carries. -/
theorem flipLane_sound (h : WorkSound s) (k : Chute) (lane : Lane) : WorkSound (flipLane k lane s) :=
  ⟨h.placed, h.fits.set (h.fits.own k) (h.fits.settled k)⟩

/-- The completion of an OPEN or CLOSE acts on its own chute's nozzle, queue and bus (R121). -/
theorem completeTransaction_keeps_atWork {k : Chute} {t : Transaction} (ht : (s.busOf k).inFlight = some t)
    (hk : t.kind ≠ .closeAll) (result : LastResult) (m : Nat) (h : AtWork s) :
    AtWork (completeTransaction k t result m s) := by
  have hg : chuteOf t.nozzle = k := (h.fits.own k).of_inFlight ht hk
  have heffects : ∀ u, WorkSound u →
      AtWork (conclude (freeBus k (dispatchEffect t result (nozzleEffect t result m u)))) := by
    intro u hu
    have hnozzle : Placed (nozzleEffect t result m u) := by
      refine hu.placed.of_ctl ?_ ?_ ?_ ?_ fun _ => nozzleEffect_keeps_none t result m u
      all_goals rw [nozzleEffect_frame]
    have hbus : (nozzleEffect t result m u).bus = u.bus := by rw [nozzleEffect_frame]
    refine freeBus_atWork (hnozzle.of_ctl ?_ ?_ ?_ ?_ fun _ => dispatchEffect_keeps_none t result _) ?_
    any_goals rw [dispatchEffect_frame]
    subst hg
    exact dispatchEffect_fitBut t result (by rw [hbus]; exact hu.fits.but _)
  unfold completeTransaction
  refine heffects _ ?_
  split
  · exact flipLane_sound h.sound k t.lane
  · exact h.sound

/-- A CLOSE ALL between its sends, or at its end (R123). -/
theorem closeAllSendEnds_keeps_atWork {k : Chute} {t t' : Transaction} (ht : (s.busOf k).inFlight = some t)
    (hk : t'.kind = t.kind) (hn : t'.nozzle = t.nozzle) (h : AtWork s) : AtWork (closeAllSendEnds k t' s) := by
  unfold closeAllSendEnds
  split
  · exact ⟨⟨h.placed, h.fits.send ht hk hn .b⟩, h.workLeft⟩
  · refine freeBus_atWork ?_ ?_
    · split
      · exact h.placed
      · exact h.placed
    · split
      · exact h.fits.but k
      · exact h.fits.but k

theorem replyWaitExpiry_keeps_atWork (k : Chute) : Keeps AtWork (replyWaitExpiry k) := by
  intro s h
  have hretry : ∀ t : Transaction, (s.busOf k).inFlight = some t → t.kind ≠ .closeAll →
      AtWork (if t.retry then completeTransaction k t .noReply 0 s else retry k t s) := by
    intro t ht hk
    split
    · exact completeTransaction_keeps_atWork ht hk _ _ h
    · exact ⟨⟨h.placed, h.fits.send ht (t' := { t with retry := true }) rfl rfl _⟩, h.workLeft⟩
  unfold replyWaitExpiry
  split
  · exact h
  · rename_i t ht
    split
    · exact h
    · split
      · split
        · exact closeAllSendEnds_keeps_atWork ht rfl rfl h
        · exact hretry t ht (by simp [*])
        · exact hretry t ht (by simp [*])
      · exact h

theorem valveReply_keeps_atWork (k : Chute) (lane : Lane) (bytes : List Byte) :
    Keeps AtWork (valveReply k lane bytes) := by
  intro s h
  unfold valveReply
  split
  · rename_i t r ht _
    split
    · split
      · exact closeAllSendEnds_keeps_atWork ht rfl rfl h
      · exact completeTransaction_keeps_atWork ht (by simp [*]) _ _ h
      · exact completeTransaction_keeps_atWork ht (by simp [*]) _ _ h
    · exact h
  · exact h

theorem commandSent_keeps_atWork (k : Chute) : Keeps AtWork (commandSent k) := by
  intro s h
  have hbus := h.fits.commandSent k
  have hframe : commandSent k s = { s with bus := (commandSent k s).bus } := by
    unfold commandSent
    simp only
    split
    · split <;> rfl
    · rfl
  rw [hframe]
  exact ⟨⟨h.placed, hbus⟩, h.workLeft⟩

/-! ### Inputs, purge turns, the limit of a wind-down -/

/-- An emergency stop leaves HALT without work, its CLOSE ALLs granted; a wind-down's end is owed (R156, R162). -/
theorem emergencyStop_atWork (hs : Awake s) (hb : OwnWork s.bus) : AtWork (emergencyStop s) := by
  rw [emergencyStop_eq]
  refine ⟨⟨⟨hs, fun _ => rfl, by simp, by simp, fun _ _ => ⟨rfl, rfl, rfl⟩, fun _ => rfl⟩, ?_⟩, nofun⟩
  exact hb.closeAllGranted (f := fun b => { b with closeAll := true, requests := [] })
    fun _ _ hown => hown.of_subset (List.nil_subset _)

theorem estopAssertion_keeps_atWork : Keeps AtWork estopAssertion := by
  intro s h
  have ht := (takeOwedReset_atWork h).1
  unfold estopAssertion
  split
  · exact h
  · exact emergencyStop_atWork (s := { takeOwedReset s with ctl := _ }) ht.sound.awake ht.fits.own

theorem airlowAssertion_keeps_atWork : Keeps AtWork airlowAssertion := by
  intro s h
  unfold airlowAssertion
  split <;> exact h

/-- One chute's offer of a purge turn. -/
theorem purgeOffer_sound (width n : Nat) (k : Chute) (ho : s.ctl.op = .purge) (h : WorkSound s) :
    (purgeOffer width n k s).ctl.op = .purge ∧ WorkSound (purgeOffer width n k s) := by
  have hp := purgeOffer_purge width n k s
  rw [purgeOffer_frame] at hp ⊢
  exact ⟨ho, h.placed.of_purge rfl hp (fun _ _ => id) fun hhalt => by simp [ho] at hhalt, h.fits⟩

/-- The purge record moved on, and what ends with the turn (R154, R155). -/
theorem advance_atWork (h : WorkSound s) :
    AtWork (conclude { s with ctl := { s.ctl with purge := s.ctl.purge.map Purge.advance } }) :=
  conclude_atWork ⟨h.placed.of_purge rfl Option.isSome_map (fun _ _ => id) fun _ => id, h.fits⟩

/-- A turn is made in PURGE: each chute is offered its nozzle, and the record is moved on (R154). -/
theorem makeTurn_atWork (p : Purge) (ho : s.ctl.op = .purge) (h : WorkSound s) : AtWork (makeTurn p s) := by
  have hoffer := fun k {u : State} => purgeOffer_sound (s := u) p.width (p.nextTurn % Config.nozzlesPerChute) k
  obtain ⟨ho, h⟩ := hoffer 0 ho h
  obtain ⟨ho, h⟩ := hoffer 1 ho h
  obtain ⟨ho, h⟩ := hoffer 2 ho h
  obtain ⟨-, h⟩ := hoffer 3 ho h
  unfold makeTurn
  exact advance_atWork h

theorem purgeTurn_keeps_atWork : Keeps AtWork purgeTurn := by
  intro s h
  unfold purgeTurn
  split
  · rename_i p hp
    split
    · exact makeTurn_atWork p (h.placed.purge_iff.1 (by rw [hp]; rfl)) h.sound
    · exact h
  · exact h

theorem windDownLimitExpiry_keeps_atWork : Keeps AtWork windDownLimitExpiry := by
  intro s h
  unfold windDownLimitExpiry
  split
  · rename_i w hw
    have ho : s.ctl.op = .windDown := h.placed.windDown_iff.1 (by rw [hw]; rfl)
    split
    · rw [windDownExpiry_eq]
      have hbus : OwnWork (windDownReduced w s).bus := by
        rw [windDownReduced_eq]
        exact h.fits.own.reduceQueues
      refine conclude_atWork ⟨?_, hbus.grantAll⟩
      obtain ⟨⟨⟨hawake, hreset, -, hpurge, -, -⟩, -⟩, -⟩ := h
      rw [grantAll_frame, windDownReduced_eq]
      exact ⟨hawake, hreset, by simp [ho], hpurge, fun _ hne => absurd ho hne, fun hh => by simp [ho] at hh⟩
    · exact h
  · exact h

/-! ### The sighting port, the planner and the held list -/

theorem lsyncPulse_keeps_atWork : Keeps AtWork lsyncPulse := by
  intro s h
  have hsettle : ∀ n t, AtWork t → AtWork (judgeSettle n t) := by
    intro n t ht
    unfold judgeSettle
    split
    · exact ht
    · split_ifs <;> exact ht
  unfold lsyncPulse
  simp only
  split
  · exact h
  · refine hsettle _ _ ?_
    split <;> exact h

theorem admitSighting_keeps_atWork (g : Sighting) : Keeps AtWork (admitSighting g) := by
  intro s h
  unfold admitSighting
  split
  · rename_i ho
    split
    · exact WorkSound.atWork_of_op_ne (h.sound.of_sorting (.inl ho) rfl rfl) (ne_of_eq_of_ne ho nofun)
    · exact h
  · exact h

theorem takeVerdict_keeps_atWork (k : Chute) (tag : Byte) (confirm : Bool) :
    Keeps AtWork (takeVerdict k tag confirm) := by
  intro s h
  unfold takeVerdict
  split
  · rename_i hs
    split
    · have hremoved : WorkSound (removeHeld k tag s) := h.sound.of_sorting hs rfl rfl
      refine endWindDown_atWork ?_
      split
      · exact placeAndCount_sound hremoved hs _ _ _ _
      · exact hremoved
    · unfold verdictWithoutEntry
      split <;> exact h
  · exact h

theorem recordByte_keeps_atWork (b : Byte) : Keeps AtWork fun s => recordByte s b := by
  intro s h
  simp only [recordByte]
  split
  · exact h
  · split
    · exact h
    · unfold completeRecord
      split
      · exact h
      · exact h
      · exact admitSighting_keeps_atWork _ (setRecordRx (.collecting []) s) h
      · exact takeVerdict_keeps_atWork _ _ _ (setRecordRx (.collecting []) s) h

/-- The sighting that is taken is still work (R18). -/
theorem plannerTake_keeps_atWork : Keeps AtWork plannerTake := by
  intro s h
  unfold plannerTake
  split
  · rename_i g rest _ hintake
    have hs : Sorting s := h.placed.sorting_of_pending fun ⟨hn, _⟩ => by simp [hn] at hintake
    exact ⟨h.sound.of_sorting hs rfl rfl, fun _ ⟨_, hn, _⟩ => by cases hn⟩
  · exact h

theorem deadlineExpiry_keeps_atWork (k : Chute) (tag : Byte) : Keeps AtWork (deadlineExpiry k tag) := by
  intro s h
  unfold deadlineExpiry
  split
  · rename_i e he
    have hs : Sorting s := h.placed.sorting_of_pending fun ⟨_, _, hn⟩ => by simp [findHeld, hn] at he
    split
    · exact endWindDown_atWork (applyPolicy_sound (s := pushTag _ _ (countSighting _ _ _ (removeHeld k tag s)))
        (h.sound.of_sorting hs rfl rfl) hs e)
    · exact h
  · exact h

/-! ### The steps of planning -/

/-- A step of planning, which a sighting is in: the end of a wind-down is judged after it (R159). -/
theorem planStep_keeps_atWork {f : PlanRecord → State → State}
    (hf : ∀ r u, WorkSound u → Sorting u → WorkSound (f r u)) (step : PlanStep) : Keeps AtWork (planStep step f) := by
  intro s h
  unfold planStep
  split
  · split
    · exact endWindDown_atWork (hf _ s h.sound (h.placed.sorting_of_planner ‹_›))
    · exact h
  · exact h

theorem setPlan_sound (r : PlanRecord) (h : WorkSound s) (hs : Sorting s) : WorkSound (setPlan r s) :=
  h.of_sorting hs rfl rfl

theorem endWith_sound (g : Sighting) (c : SightingCounter) (h : WorkSound s) (hs : Sorting s) :
    WorkSound (endWith g c s) :=
  h.of_sorting hs rfl rfl

theorem nozzleSetStep_sound (r : PlanRecord) (h : WorkSound s) (hs : Sorting s) : WorkSound (nozzleSetStep r s) := by
  unfold nozzleSetStep formNozzleSet
  simp only
  split
  · exact setPlan_sound _ h hs
  · split
    · exact endWith_sound _ _ h hs
    · split <;> exact h.of_sorting hs rfl rfl

theorem handOff_sound (e : HeldEntry) (h : WorkSound s) (hs : Sorting s) : WorkSound (handOff e s) := by
  unfold handOff
  split
  · exact applyPolicy_sound (s := pushTag _ _ (countSighting _ _ _ s)) h hs e
  · split
    · exact applyPolicy_sound (s := countSighting _ _ _ (countChute _ _ s)) h hs e
    · split
      · exact applyPolicy_sound (s := countSighting _ _ _ (setNotice _ _ s)) h hs e
      · exact h.of_sorting hs rfl rfl

theorem confidenceStep_sound (r : PlanRecord) (h : WorkSound s) (hs : Sorting s) : WorkSound (confidenceStep r s) := by
  unfold confidenceStep
  simp only
  split
  · exact setPlan_sound _ h hs
  · exact handOff_sound _ (s := endPlanning s) (h.of_sorting hs rfl rfl) hs

theorem placement_sound (r : PlanRecord) (h : WorkSound s) (hs : Sorting s) : WorkSound (placement r s) :=
  placeAndCount_sound (s := endPlanning s) (h.of_sorting hs rfl rfl) hs _ _ _ _

/-- A step that may end the planning of its sighting. -/
theorem endOrPlan_sound {ends : Prop} [Decidable ends] {g : Sighting} {c : SightingCounter} {r : PlanRecord}
    (h : WorkSound s) (hs : Sorting s) : WorkSound (if ends then endWith g c s else setPlan r s) := by
  split
  · exact endWith_sound g c h hs
  · exact setPlan_sound r h hs

theorem ageStep_sound (r : PlanRecord) (h : WorkSound s) (hs : Sorting s) : WorkSound (ageStep r s) :=
  endOrPlan_sound h hs

theorem bandStep_sound (r : PlanRecord) (h : WorkSound s) (hs : Sorting s) : WorkSound (bandStep r s) :=
  endOrPlan_sound h hs

theorem widthStep_sound (r : PlanRecord) (h : WorkSound s) (hs : Sorting s) : WorkSound (widthStep r s) :=
  endOrPlan_sound h hs

theorem leadStep_sound (r : PlanRecord) (h : WorkSound s) (hs : Sorting s) : WorkSound (leadStep r s) :=
  endOrPlan_sound h hs

end

end Sys2Proof.Machine
end

section
/-! The commands keep the work fitting the operating state, and so does every step (O59). -/

namespace Sys2Proof.Machine

theorem linkBlind_work : LinkBlind AtWork where
  setFrameRx _ _ h := h
  controlError _ _ h := h
  giveReply _ _ _ h := h

section
variable {s : State}

/-! ### Commands of the state controller -/

/-- GO RUN enters RUN from STANDBY, where no work waits (R150). -/
theorem goRun_keeps_work (p : List Byte) : KeepsCmd AtWork (cmdGoRun p) := by
  intro s h
  obtain ⟨ht, hdue⟩ := takeOwedReset_atWork h
  have hrun : (takeOwedReset s).ctl.op = .standby → AtWork (enterState .run (closeWindow (takeOwedReset s))) := by
    intro ho
    obtain ⟨⟨⟨hawake, -, hwind, hpurge, -, -⟩, hbus⟩, -⟩ := ht
    rw [ho] at hwind hpurge
    rw [enterState_closeWindow]
    exact ⟨⟨⟨hawake, fun hd => by simp [hdue] at hd, by simpa using hwind, by simpa using hpurge,
      fun hne => absurd rfl hne, nofun⟩, hbus⟩, nofun⟩
  unfold cmdGoRun
  split
  · simp only
    split
    · exact ht
    · exact keeps_ite ht <| keeps_ite ht <| keeps_ite ht <| keeps_ite ht <| hrun (not_not.1 ‹_›)
  · exact h

/-- A state that is left for STANDBY with no sighting pending and no record of a purge (R151, R152). -/
theorem enterStandby_atWork {t : State} (hawake : Awake t) (hdue : t.ctl.resetDue = false) (hw : t.ctl.windDown = none)
    (hp : t.ctl.purge = none) (hs : NoSightings t) (hb : BusesFit t.bus) : AtWork (enterState .standby t) := by
  rw [enterState_eq]
  exact ⟨⟨⟨hawake, fun hd => by simp [hdue] at hd, by simp [hw], by simp [hp], fun _ _ => hs, nofun⟩, hb⟩, nofun⟩

theorem goStandby_keeps_work (p : List Byte) : KeepsCmd AtWork (cmdGoStandby p) := by
  intro s h
  obtain ⟨ht, hdue⟩ := takeOwedReset_atWork h
  obtain ⟨⟨⟨hawake, -, hwind, hpurge, hsightings, -⟩, hbus⟩, -⟩ := id ht
  unfold cmdGoStandby
  split
  · simp only
    split
    · exact ht
    all_goals
      rename_i ho
      rw [ho] at hwind hpurge hsightings
    · unfold standbyFromRun
      rw [giveUpPending_eq]
      exact enterStandby_atWork hawake hdue (by simpa using hwind) (by simpa using hpurge) ⟨rfl, rfl, rfl⟩ hbus
    · exact enterStandby_atWork hawake hdue (by simpa using hwind) rfl (hsightings nofun nofun) hbus
    · exact keeps_ite ht (enterStandby_atWork hawake hdue (by simpa using hwind) (by simpa using hpurge)
        (hsightings nofun nofun) hbus)
    · exact ht
  · exact h

/-- A purge begins in STANDBY with its record and its first turn (R153). -/
theorem startPurge_atWork (h : AtWork s) (hdue : s.ctl.resetDue = false) (ho : s.ctl.op = .standby)
    (rounds width spacing : Nat) : AtWork (startPurge rounds width spacing s) := by
  obtain ⟨⟨⟨hawake, -, hwind, -, hsightings, -⟩, hbus⟩, -⟩ := h
  rw [ho] at hwind hsightings
  rw [startPurge_eq]
  exact makeTurn_atWork _ rfl ⟨⟨hawake, fun hd => by simp [hdue] at hd, by simpa using hwind, by simp,
    fun _ _ => hsightings nofun nofun, nofun⟩, hbus⟩

theorem purge_keeps_work (p : List Byte) : KeepsCmd AtWork (cmdPurge p) := by
  intro s h
  obtain ⟨ht, hdue⟩ := takeOwedReset_atWork h
  unfold cmdPurge
  split
  · simp only
    split
    · exact ht
    · refine keeps_ite ht ?_
      simp only
      exact startPurge_atWork ht hdue (not_not.1 ‹_›) _ _ _
  · exact h

/-- A wind-down begins from any state but its own, its record made and a purge's discarded (R158). -/
theorem startWindDown_sound (h : WorkSound s) (hdue : s.ctl.resetDue = false) : WorkSound (startWindDown s) := by
  obtain ⟨⟨hawake, -⟩, hbus⟩ := h
  unfold startWindDown
  rw [enterState_closeWindow]
  exact ⟨⟨hawake, fun hd => by simp [hdue] at hd, by simp, by simp, fun _ hne => absurd rfl hne, nofun⟩, hbus⟩

theorem restart_keeps_work (p : List Byte) : KeepsCmd AtWork (cmdRestart p) := by
  intro s h
  obtain ⟨ht, hdue⟩ := takeOwedReset_atWork h
  unfold cmdRestart
  split
  · exact keeps_ite ht (endWindDown_atWork (startWindDown_sound ht.sound hdue))
  · exact h

theorem dryOn_keeps_work (p : List Byte) : KeepsCmd AtWork (cmdDryOn p) := by
  intro s h
  have ht := (takeOwedReset_atWork h).1
  have hdry : Keeps AtWork dryOn := by
    intro u hu
    unfold dryOn
    split
    · exact hu
    · exact concludeDry_atWork (s := { u with ctl := _ }) hu
  unfold cmdDryOn
  split
  · exact keeps_ite (hdry (closeWindow (takeOwedReset s)) ht) ht
  · exact h

theorem dryOff_keeps_work (p : List Byte) : KeepsCmd AtWork (cmdDryOff p) := by
  intro s h
  have ht := (takeOwedReset_atWork h).1
  unfold cmdDryOff
  split
  · exact keeps_ite ht ht
  · exact h

/-! ### Commands of nozzles, lanes and settings -/

/-- A NOZZLE WRITE is refused in WIND-DOWN, and takes entries out of queues alone (R137, R74). -/
theorem nozzleWrite_keeps_work (p : List Byte) : KeepsCmd AtWork (cmdNozzleWrite p) := by
  intro s h
  have hwrite : ∀ g f, AtWork (writeNozzle g f s) := by
    intro g f
    unfold writeNozzle
    simp only
    split
    · refine conclude_atWork ⟨h.placed.of_ctl rfl rfl rfl rfl fun _ hn => ?_, h.fits⟩
      exact abandonWaiting_keeps_none g (closeWindow (s.setNozzle g _)) hn
    · exact h
  unfold cmdNozzleWrite
  split
  · split
    · exact h
    · exact keeps_ite h <| keeps_ite h <| keeps_ite h <| keeps_ite h <| hwrite _ _
  · exact h

/-- A TEST is offered in STANDBY (R143). -/
theorem test_keeps_work (p : List Byte) : KeepsCmd AtWork (cmdTest p) := by
  intro s h
  unfold cmdTest
  split
  · refine keeps_ite h ?_
    split
    · exact h
    · rename_i ho
      have ho : s.ctl.op = .standby := not_not.1 ho
      refine keeps_ite h <| keeps_ite h ?_
      simp only
      refine WorkSound.atWork_of_op_ne
        ⟨h.placed.of_purge (t := (offer _ _ _ _ _ _).1) ?_ (offer_purge _ _ _ _ _ _) ?_ ?_, ?_⟩ ?_
      all_goals rw [offer_frame]
      · rfl
      · exact fun _ _ => id
      · exact fun hh => by simp [ho] at hh
      · exact h.fits
      · exact ne_of_eq_of_ne ho nofun
  · exact h

theorem lane_keeps_work (p : List Byte) : KeepsCmd AtWork (cmdLane p) := by
  intro s h
  have hlane : ∀ k lane, AtWork (s.setBus k { s.busOf k with active := lane }) := fun k _ =>
    ⟨⟨h.placed, h.fits.set (h.fits.own k) (h.fits.settled k)⟩, h.workLeft⟩
  unfold cmdLane
  split
  · split
    · exact hlane _ _
    · exact h
  · exact h

theorem setNumeric_keeps_work {id chute : Byte} {allowed : State → Bool} {lo hi : Nat} {store : Nat → State → State}
    {value : Nat} (hstore : ∀ v, Keeps AtWork (store v)) :
    KeepsCmd AtWork (setNumeric id chute allowed lo hi store value) :=
  fun s h => keeps_ite (hstore _ s h) h

theorem withValue_keeps_work {f : Byte → Nat → State → State × Answer} (hf : ∀ c v, KeepsCmd AtWork (f c v))
    (rest : List Byte) : KeepsCmd AtWork (withValue f rest) := by
  intro s h
  unfold withValue
  split
  · exact hf _ _ s h
  · exact h

/-- The settings have no part in the work. -/
theorem updateSettings_keeps_work (f : Settings → Settings) : Keeps AtWork (updateSettings f) := fun _ h => h

theorem setSetting_keeps_work {id : Byte} {allowed : State → Bool} {lo hi : Nat} {f : Nat → Settings → Settings}
    (rest : List Byte) : KeepsCmd AtWork
      (withValue (fun _ => setNumeric id 0 allowed lo hi fun v => updateSettings (f v)) rest) :=
  withValue_keeps_work (fun _ _ => setNumeric_keeps_work fun _ => updateSettings_keeps_work _) rest

/-- Every command keeps the work fitting the operating state. -/
theorem commands_keep_work : CommandsKeep AtWork where
  poll p s h := by
    unfold cmdPoll
    split
    · split <;> exact h
    · exact h
  notices p s h := by
    unfold cmdNotices
    split <;> exact h
  rearm p s h := by
    unfold cmdRearm
    split <;> exact h
  goRun := goRun_keeps_work
  goStandby := goStandby_keeps_work
  purge := purge_keeps_work
  restart := restart_keeps_work
  clearCold p s h := by
    unfold cmdClearCold
    split
    · exact (takeOwedReset_atWork h).1
    · exact h
  dryOn := dryOn_keeps_work
  dryOff := dryOff_keeps_work
  window p s h := by
    have hopen : ∀ w, AtWork (openWindow w s) := fun w => by
      rw [openWindow_eq]
      exact h
    unfold cmdWindow
    split
    · split
      · exact h
      · exact keeps_ite h <| keeps_ite h <| keeps_ite h <| hopen _
    · exact h
  put p s h := by
    unfold cmdPut
    refine keeps_ite h ?_
    split
    · exact h
    · refine keeps_ite h ?_
      split
      · exact h
      · rw [putEntry_eq]
        exact h
  get p s h := by
    unfold cmdGet
    split
    · split
      · exact h
      · exact keeps_ite h h
    · exact h
  requestSwap ls s h := keeps_ite h <| keeps_ite h <| keeps_ite h h
  swapCancel p s h := by
    unfold cmdSwapCancel
    split
    · exact keeps_ite h h
    · exact h
  nozzleRead p s h := by
    unfold cmdNozzleRead
    split
    · exact keeps_ite h h
    · exact h
  nozzleWrite := nozzleWrite_keeps_work
  test := test_keeps_work
  lane := lane_keeps_work
  query p s h := by
    unfold cmdQuery
    split
    · split <;> exact h
    · exact h
  tally p s h := by
    have hclear : ∀ (clear : Byte) n, AtWork (closeWindow (if clear = 1 then clearTally n s else s)) := by
      intro clear n
      split
      · cases n <;> exact h
      · exact h
    unfold cmdTally
    split
    · refine keeps_ite h ?_
      split
      · exact h
      · exact hclear _ _
    · exact h
  setAirTrim := setSetting_keeps_work
  setLinePeriod := withValue_keeps_work fun _ _ => setNumeric_keeps_work fun _ _ h => h
  setMaxAge := setSetting_keeps_work
  setLeadMin := setSetting_keeps_work
  setWidthMin rest s := setSetting_keeps_work rest s
  setWidthMax rest s := setSetting_keeps_work rest s
  setWidthCap rest s := setSetting_keeps_work rest s
  setValveGap := withValue_keeps_work fun c v s h => by
    show AtWork (Prod.fst (match chuteByte c with | none => _ | some _ => _))
    split
    · exact h
    · exact setNumeric_keeps_work (fun _ => updateSettings_keeps_work _) s h
  setReplyWait := setSetting_keeps_work
  setMissLimit := setSetting_keeps_work
  setWindDownLimit := setSetting_keeps_work
  setGroupAddress := withValue_keeps_work fun _ _ _ h => keeps_ite h h
  setNoticeMask := withValue_keeps_work fun _ _ _ h => h

end

/-! ### Every event of an awake part -/

/-- An event that an awake part takes by an effect that keeps the work fitting. -/
def KeepsWork (c : Instr) : Prop := ∃ f, (∀ s, exec c s = live f s) ∧ Keeps AtWork f

theorem keepsWork_of_planStep {c : Instr} {step : PlanStep} {f : PlanRecord → State → State}
    (hc : ∀ s, exec c s = live (planStep step f) s) (hf : ∀ r u, WorkSound u → Sorting u → WorkSound (f r u)) :
    KeepsWork c := ⟨_, hc, planStep_keeps_atWork hf step⟩

theorem keepsWork_of_command {c : Instr} {addr kind : Byte} {p : List Byte} {replyOnly : Bool}
    {cmd : State → State × Answer} (hc : ∀ s, exec c s = hostCommand addr kind p replyOnly cmd s)
    (hk : KeepsCmd AtWork cmd) : KeepsWork c :=
  ⟨_, hc, receiveFrame_keeps linkBlind_work commands_keep_work
    (answer_keeps linkBlind_work hk addr kind replyOnly) _ _ _⟩

theorem frameBytesIn_keeps_work (bytes : List Byte) : Keeps AtWork (frameBytesIn bytes) :=
  frameBytesIn_keeps linkBlind_work commands_keep_work bytes

theorem recordGap_keeps_work : Keeps AtWork recordGap := by
  intro s h
  unfold recordGap
  split <;> exact h

/-- Whatever is executed but a reset by RSTN keeps the work fitting. -/
theorem exec_keeps_work (c : Instr) (hlow : c ≠ .rstnLow)
    (hend : ∀ straps estop airlow, c ≠ .coldResetEnd straps estop airlow) : KeepsWork c := by
  have hc := commands_keep_work
  cases c with
  | rstnLow => exact absurd rfl hlow
  | coldResetEnd straps estop airlow => exact absurd rfl (hend straps estop airlow)
  | lsyncPulse =>
    refine ⟨_, fun _ => rfl, fun s h => ?_⟩
    split
    · exact lsyncPulse_keeps_atWork s h
    · exact h
  | lsyncPulseEnd =>
    refine ⟨_, fun _ => rfl, fun s h => ?_⟩
    split
    · exact h
    all_goals split <;> exact h
  | sightingRecord bytes => exact ⟨_, fun _ => rfl, recordBytesIn_keeps recordByte_keeps_atWork bytes⟩
  | verdictRecord bytes => exact ⟨_, fun _ => rfl, recordBytesIn_keeps recordByte_keeps_atWork bytes⟩
  | partialRecordTimeout bytes =>
    exact ⟨_, fun _ => rfl, fun s h => recordGap_keeps_work _ (recordBytesIn_keeps recordByte_keeps_atWork bytes s h)⟩
  | resyncIdleTimeout =>
    refine ⟨_, fun _ => rfl, fun s h => ?_⟩
    split <;> exact h
  | plannerTake => exact ⟨_, fun _ => rfl, plannerTake_keeps_atWork⟩
  | ageStep => exact keepsWork_of_planStep (fun _ => rfl) fun r _ => ageStep_sound r
  | bankStep => exact keepsWork_of_planStep (fun _ => rfl) fun _ _ => setPlan_sound _
  | bandStep => exact keepsWork_of_planStep (fun _ => rfl) fun r _ => bandStep_sound r
  | nozzleSetStep => exact keepsWork_of_planStep (fun _ => rfl) fun r _ => nozzleSetStep_sound r
  | sizeBandStep => exact keepsWork_of_planStep (fun _ => rfl) fun _ _ => setPlan_sound _
  | widthStep => exact keepsWork_of_planStep (fun _ => rfl) fun r _ => widthStep_sound r
  | flightStep => exact keepsWork_of_planStep (fun _ => rfl) fun _ _ => setPlan_sound _
  | seenTimeStep => exact keepsWork_of_planStep (fun _ => rfl) fun _ _ => setPlan_sound _
  | perNozzleTimesStep => exact keepsWork_of_planStep (fun _ => rfl) fun _ _ => setPlan_sound _
  | leadStep => exact keepsWork_of_planStep (fun _ => rfl) fun r _ => leadStep_sound r
  | confidenceStep => exact keepsWork_of_planStep (fun _ => rfl) fun r _ => confidenceStep_sound r
  | placement => exact keepsWork_of_planStep (fun _ => rfl) fun r _ => placement_sound r
  | deadlineExpiry chute tag => exact ⟨_, fun _ => rfl, deadlineExpiry_keeps_atWork chute tag⟩
  | entryStart g => exact ⟨_, fun _ => rfl, entryStart_keeps_atWork g⟩
  | entryEnd g => exact ⟨_, fun _ => rfl, entryEnd_keeps_atWork g⟩
  | grant chute =>
    refine ⟨_, fun _ => rfl, fun s h => ?_⟩
    split
    · exact h
    · split
      · exact grant_atWork h.placed (h.fits.but chute)
      · exact h
  | commandSent chute => exact ⟨_, fun _ => rfl, commandSent_keeps_atWork chute⟩
  | replyWaitExpiry chute => exact ⟨_, fun _ => rfl, replyWaitExpiry_keeps_atWork chute⟩
  | valveReply chute lane bytes => exact ⟨_, fun _ => rfl, valveReply_keeps_atWork chute lane bytes⟩
  | estopAssertion => exact ⟨_, fun _ => rfl, estopAssertion_keeps_atWork⟩
  | estopRelease => exact ⟨_, fun _ => rfl, fun _ h => h⟩
  | airlowAssertion => exact ⟨_, fun _ => rfl, airlowAssertion_keeps_atWork⟩
  | airlowRelease => exact ⟨_, fun _ => rfl, fun _ h => h⟩
  | purgeTurn => exact ⟨_, fun _ => rfl, purgeTurn_keeps_atWork⟩
  | purgeComplete => exact ⟨_, fun _ => rfl, fun _ => concludePurge_atWork⟩
  | windDownLimitExpiry => exact ⟨_, fun _ => rfl, windDownLimitExpiry_keeps_atWork⟩
  | warmReset =>
    refine ⟨_, fun _ => rfl, fun s h => ?_⟩
    split
    · exact warmReset_atWork h.sound.awake h.fits.own
    · exact h
  | dryFlagSet => exact ⟨_, fun _ => rfl, fun _ => concludeDry_atWork⟩
  | controlError bytes => exact ⟨_, fun _ => rfl, frameBytesIn_keeps_work bytes⟩
  | frameIdleTimeout bytes =>
    exact ⟨_, fun _ => rfl, fun s h => frameGap_keeps linkBlind_work _ (frameBytesIn_keeps_work bytes s h)⟩
  | controlResyncTimeout =>
    refine ⟨_, fun _ => rfl, fun s h => ?_⟩
    split <;> exact h
  | replyTurnaroundEnd =>
    refine ⟨_, fun _ => rfl, fun s h => ?_⟩
    unfold replyTurnaroundEnd
    split
    · split <;> exact h
    · exact h
  | replySent =>
    refine ⟨_, fun _ => rfl, fun s h => ?_⟩
    unfold replySent
    split <;> exact h
  | unknownCommand addr kind p =>
    exact ⟨_, fun _ => rfl, receiveFrame_keeps linkBlind_work hc (judgeFrame_keeps linkBlind_work hc addr kind p) _ _ _⟩
  | poll _ p => exact keepsWork_of_command (fun _ => rfl) (hc.poll p)
  | notices _ p => exact keepsWork_of_command (fun _ => rfl) (hc.notices p)
  | rearm _ p => exact keepsWork_of_command (fun _ => rfl) (hc.rearm p)
  | goRun _ p => exact keepsWork_of_command (fun _ => rfl) (hc.goRun p)
  | goStandby _ p => exact keepsWork_of_command (fun _ => rfl) (hc.goStandby p)
  | purge _ p => exact keepsWork_of_command (fun _ => rfl) (hc.purge p)
  | restart _ p => exact keepsWork_of_command (fun _ => rfl) (hc.restart p)
  | clearCold _ p => exact keepsWork_of_command (fun _ => rfl) (hc.clearCold p)
  | dryOn _ p => exact keepsWork_of_command (fun _ => rfl) (hc.dryOn p)
  | dryOff _ p => exact keepsWork_of_command (fun _ => rfl) (hc.dryOff p)
  | window _ p => exact keepsWork_of_command (fun _ => rfl) (hc.window p)
  | put _ p => exact keepsWork_of_command (fun _ => rfl) (hc.put p)
  | get _ p => exact keepsWork_of_command (fun _ => rfl) (hc.get p)
  | swapAtLine _ p => exact keepsWork_of_command (fun _ => rfl) (hc.swapAtLine p)
  | swapAtNextLine _ p => exact keepsWork_of_command (fun _ => rfl) (hc.swapAtNextLine p)
  | swapCancel _ p => exact keepsWork_of_command (fun _ => rfl) (hc.swapCancel p)
  | nozzleRead _ p => exact keepsWork_of_command (fun _ => rfl) (hc.nozzleRead p)
  | nozzleWrite _ p => exact keepsWork_of_command (fun _ => rfl) (hc.nozzleWrite p)
  | test _ p => exact keepsWork_of_command (fun _ => rfl) (hc.test p)
  | lane _ p => exact keepsWork_of_command (fun _ => rfl) (hc.lane p)
  | setAirTrim _ p => exact keepsWork_of_command (fun _ => rfl) (hc.setAirTrim p)
  | setLinePeriod _ p => exact keepsWork_of_command (fun _ => rfl) (hc.setLinePeriod p)
  | setMaxAge _ p => exact keepsWork_of_command (fun _ => rfl) (hc.setMaxAge p)
  | setLeadMin _ p => exact keepsWork_of_command (fun _ => rfl) (hc.setLeadMin p)
  | setWidthMin _ p => exact keepsWork_of_command (fun _ => rfl) (hc.setWidthMin p)
  | setWidthMax _ p => exact keepsWork_of_command (fun _ => rfl) (hc.setWidthMax p)
  | setWidthCap _ p => exact keepsWork_of_command (fun _ => rfl) (hc.setWidthCap p)
  | setValveGap _ p => exact keepsWork_of_command (fun _ => rfl) (hc.setValveGap p)
  | setReplyWait _ p => exact keepsWork_of_command (fun _ => rfl) (hc.setReplyWait p)
  | setMissLimit _ p => exact keepsWork_of_command (fun _ => rfl) (hc.setMissLimit p)
  | setWindDownLimit _ p => exact keepsWork_of_command (fun _ => rfl) (hc.setWindDownLimit p)
  | setGroupAddress _ p => exact keepsWork_of_command (fun _ => rfl) (hc.setGroupAddress p)
  | setNoticeMask _ p => exact keepsWork_of_command (fun _ => rfl) (hc.setNoticeMask p)
  | query _ p => exact keepsWork_of_command (fun _ => rfl) (hc.query p)
  | tally _ p => exact keepsWork_of_command (fun _ => rfl) (hc.tally p)

/-! ### The cold reset -/

/-- RSTN low leaves nothing waiting and nothing pending (R148). -/
theorem heldInReset_fits (s : State) : WorkFitsState (heldInReset s) := by
  refine (workFitsState_iff_of_held rfl).2 ⟨?_, rfl, rfl, rfl, rfl, ⟨rfl, rfl, rfl⟩, rfl⟩
  constructor
  · intro h
    rw [show (heldInReset s).bus.get h = _ from PerChute.get_const _ h]
    exact ⟨nofun, nofun⟩
  · intro h
    rw [show (heldInReset s).bus.get h = _ from PerChute.get_const _ h]
    exact fun _ => ⟨rfl, rfl⟩

/-- A part that held its reset awakes in STANDBY, or in HALT with ESTOP asserted, its CLOSE ALLs granted (R148). -/
theorem coldResetEnd_fits (straps : BitVec 5) (estop airlow : Bool) {s : State} (hs : s.ctl.rstn = true)
    (h : WorkFitsState s) : AtWork (coldResetEnd straps estop airlow s) := by
  obtain ⟨hbus, hop, hdue, hwind, hpurge, hsightings, hentries⟩ := (workFitsState_iff_of_held hs).1 h
  have hairlow : ∀ u, AtWork u → AtWork (if airlow then coldAirlow u else u) := by
    intro u hu
    split <;> exact hu
  have hfit : BusesFit (s.bus.map fun _ b => BusController.closeAllGranted { b with closeAll := true }) :=
    hbus.own.closeAllGranted (f := fun b => { b with closeAll := true }) fun _ _ hown => hown
  unfold coldResetEnd
  refine hairlow _ ?_
  simp only
  rw [grantAll_of_closeAll _ fun k => by simp [State.busOf, requestCloseAll]]
  split
  · unfold coldEstop
    rw [enterState_eq]
    exact ⟨⟨⟨rfl, fun _ => rfl, by simp [hwind], by simp [hpurge], fun _ _ => hsightings, fun _ => hentries⟩, hfit⟩,
      nofun⟩
  · exact ⟨⟨⟨rfl, fun hd => by simp [hdue] at hd, by simp [hwind, hop], by simp [hpurge, hop], fun _ _ => hsightings,
      fun _ => hentries⟩, hfit⟩, fun hw => by simp [hop] at hw⟩

/-- Whatever is executed keeps the invariant: RSTN low and the end of the cold reset by themselves, everything else by
its effect on an awake part. -/
theorem exec_keeps_fitting (c : Instr) (s t : State) (hs : WorkFitsState s) (h : exec c s = .next t) :
    WorkFitsState t := by
  by_cases hlow : c = .rstnLow
  · subst hlow
    obtain rfl := Host.Outcome.next.inj h
    exact heldInReset_fits s
  · by_cases hend : ∀ straps estop airlow, c ≠ .coldResetEnd straps estop airlow
    · obtain ⟨f, hf, hk⟩ := exec_keeps_work c hlow hend
      rw [hf] at h
      by_cases hawake : Awake s
      · rw [live_awake s hawake] at h
        obtain rfl := Host.Outcome.next.inj h
        have hw := hk s ((workFitsState_iff_of_awake hawake).1 hs)
        exact (workFitsState_iff_of_awake hw.sound.awake).2 hw
      · rw [live_held s (by simpa using hawake)] at h
        obtain rfl := Host.Outcome.next.inj h
        exact hs
    · push Not at hend
      obtain ⟨straps, estop, airlow, rfl⟩ := hend
      obtain rfl := Host.Outcome.next.inj h
      split
      · have hw := coldResetEnd_fits straps estop airlow ‹_› hs
        exact (workFitsState_iff_of_awake hw.sound.awake).2 hw
      · exact hs

/-- Settles O59: the buses, the records and the pending work are followed apart; every operation that takes work away is
followed by the judgement of the ends, and every one that hands a request over by the grant. -/
theorem stepKeepsWorkFittingTheState : Obligations.StepKeepsWorkFittingTheState := fun _ _ hs h =>
  step_keeps (fun _ _ h => h) (fun _ h => h) exec_keeps_fitting hs h

end Sys2Proof.Machine
end

section
/-! The sends and replies of a valve bus (O24) and its CLOSE ALL (O27): R113, R115, R117 to R119, R122, R123, R185,
R187. -/

namespace Sys2Proof.Machine

section
variable {s : State} {h : Chute} {t : Transaction}

/-! ### The events of a bus -/

theorem exec_commandSent (hs : Awake s) : exec (.commandSent h) s = .next (commandSent h s) := live_awake s hs

theorem exec_replyWaitExpiry (hs : Awake s) : exec (.replyWaitExpiry h) s = .next (replyWaitExpiry h s) :=
  live_awake s hs

theorem exec_valveReply (hs : Awake s) (lane : Lane) (bytes : List Byte) :
    exec (.valveReply h lane bytes) s = .next (valveReply h lane bytes s) := live_awake s hs

/-- A wait that has not started or not run out (R118; notes/assumptions/13). -/
theorem withinWait_iff (t : Transaction) (now : Time) :
    withinWait t now = true ↔ ∀ stop, t.waitEnd = some stop → before stop now = false := by
  unfold withinWait
  cases t.waitEnd <;> simp

/-! ### With no transaction in flight -/

theorem commandSent_of_idle (hi : (s.busOf h).inFlight = none) : commandSent h s = s := by
  simp only [commandSent, hi]

theorem replyWaitExpiry_of_idle (hi : (s.busOf h).inFlight = none) : replyWaitExpiry h s = s := by
  simp only [replyWaitExpiry, hi]

theorem valveReply_of_idle (hi : (s.busOf h).inFlight = none) (lane : Lane) (bytes : List Byte) :
    valveReply h lane bytes s = s := by
  simp only [valveReply, hi]

/-! ### With a transaction in flight -/

section
variable (ht : (s.busOf h).inFlight = some t)
include ht

/-- The last byte of a command starts its wait (R117). -/
theorem commandSent_of_unsent (hw : t.waitEnd = none) : commandSent h s = { s with bus := s.bus.set h { s.busOf h with
    inFlight := some { t with waitEnd := some (s.clk.now + BitVec.ofNat 32 (20 * 2 ^ s.settings.replyWait)) } } } := by
  simp only [commandSent, ht, hw, if_true]
  rfl

theorem commandSent_of_sent {stop : Time} (hw : t.waitEnd = some stop) : commandSent h s = s := by
  simp [commandSent, ht, hw]

/-- A wait that has not started cannot run out. -/
theorem replyWaitExpiry_of_unsent (hw : t.waitEnd = none) : replyWaitExpiry h s = s := by
  simp only [replyWaitExpiry, ht, hw]

theorem replyWaitExpiry_of_waiting {stop : Time} (hw : t.waitEnd = some stop) (hd : due stop s.clk.now = false) :
    replyWaitExpiry h s = s := by
  simp [replyWaitExpiry, ht, hw, hd]

/-- What the end of a wait does (R119, R121, R123). -/
theorem replyWaitExpiry_of_due {stop : Time} (hw : t.waitEnd = some stop) (hd : due stop s.clk.now = true) :
    replyWaitExpiry h s =
      if t.kind = .closeAll then closeAllSendEnds h t s
      else if t.retry = true then completeTransaction h t .noReply 0 s else retry h t s := by
  simp only [replyWaitExpiry, ht, hw, hd, if_true]
  cases t.kind <;> rfl

/-- What a good reply does (R118, R121, R123). -/
theorem valveReply_of_good {bytes : List Byte} {v : ValveReply} (hv : decodeValveReply bytes = some v)
    (htag : v.tag = t.tag) (hw : ∀ stop, t.waitEnd = some stop → before stop s.clk.now = false) :
    valveReply h t.lane bytes s =
      if t.kind = .closeAll then closeAllSendEnds h { t with drewDone := t.drewDone || v.done } s
      else completeTransaction h t (if v.done then .done else .coilFault) v.latency s := by
  simp only [valveReply, ht, hv, htag, (withinWait_iff t s.clk.now).2 hw, and_self, if_true]
  cases t.kind <;> rfl

/-- Any other reply is ignored (R118). -/
theorem valveReply_of_ignored {lane : Lane} {bytes : List Byte}
    (hbad : decodeValveReply bytes = none ∨ lane ≠ t.lane ∨ (∃ r, decodeValveReply bytes = some r ∧ r.tag ≠ t.tag) ∨
      ∃ stop, t.waitEnd = some stop ∧ before stop s.clk.now = true) : valveReply h lane bytes s = s := by
  cases hv : decodeValveReply bytes with
  | none => simp only [valveReply, ht, hv]
  | some v =>
    have hnot : ¬(lane = t.lane ∧ v.tag = t.tag ∧ withinWait t s.clk.now = true) := by
      rintro ⟨hlane, htag, hwait⟩
      obtain hnone | hne | ⟨r, hr, hne⟩ | ⟨stop, hstop, hlate⟩ := hbad
      · simp [hv] at hnone
      · exact hne hlane
      · rw [hv] at hr
        cases hr
        exact hne htag
      · rw [(withinWait_iff t s.clk.now).1 hwait stop hstop] at hlate
        cases hlate
    simp only [valveReply, ht, hv, if_neg hnot]

end

/-! ### The bytes (12.3) -/

/-- A byte made of two codes of four bits (R185). -/
theorem toNat_append_code (a b : BitVec 4) : (a ++ b : Byte).toNat = a.toNat * 16 + b.toNat := by
  rw [BitVec.toNat_append, ← Nat.shiftLeft_add_eq_or_of_lt b.isLt, Nat.shiftLeft_eq]

theorem busKindCode_toNat (k : BusKind) :
    (busKindCode k).toNat = if k = .opn then 1 else if k = .close then 2 else 3 := by
  cases k <;> rfl

/-- The bytes of a send (R117, R187). -/
theorem valveCommand_bytes (t : Transaction) : ∃ b0 b1 : Byte, valveCommand t = [b0, b1, crc8 [b0, b1]] ∧
    b0.toNat = t.tag.toNat * 16 + (if t.kind = .opn then 1 else if t.kind = .close then 2 else 3) ∧
    b1.toNat = if t.kind = .closeAll then 0 else t.nozzle % 40 := by
  refine ⟨_, _, rfl, ?_, ?_⟩
  · rw [toNat_append_code, busKindCode_toNat]
  · have hnumber : (BitVec.ofNat 8 (numberOf t.nozzle)).toNat = t.nozzle % 40 :=
      toNat_byte ((Nat.mod_lt _ (by decide)).trans (by decide : (40 : Nat) < 256))
    cases t.kind with
    | closeAll => rfl
    | opn => exact hnumber
    | close => exact hnumber

theorem decodeValveReply_of_length {bytes : List Byte} (hl : bytes.length ≠ 4) : decodeValveReply bytes = none := by
  unfold decodeValveReply
  split
  · exact absurd rfl hl
  · rfl

section
variable {b0 b1 b2 b3 : Byte}

/-- A reply with a wrong check or an unknown result cannot be read (R118, R187). -/
theorem decodeValveReply_of_bad (hbad : b3 ≠ crc8 [b0, b1, b2] ∨ (b0.toNat % 16 ≠ 1 ∧ b0.toNat % 16 ≠ 2)) :
    decodeValveReply [b0, b1, b2, b3] = none := by
  obtain hcheck | ⟨hdone, hfault⟩ := hbad
  · simp only [decodeValveReply, ne_eq, hcheck.symm, not_false_eq_true, if_true]
  · simp only [decodeValveReply, if_neg hdone, if_neg hfault, ite_self]

/-- The tag, the result and the latency of a reply (R118, R185). -/
theorem decodeValveReply_of_good (hcheck : b3 = crc8 [b0, b1, b2]) (hcode : b0.toNat % 16 = 1 ∨ b0.toNat % 16 = 2) :
    decodeValveReply [b0, b1, b2, b3] =
      some ⟨b0.extractLsb' 4 4, b0.toNat % 16 == 1, b1.toNat % 16 * 256 + b2.toNat⟩ := by
  subst hcheck
  obtain h | h := hcode <;> simp [decodeValveReply, h]

theorem toNat_high_code (b : Byte) : (b.extractLsb' 4 4).toNat = b.toNat / 16 := by
  rw [BitVec.extractLsb'_toNat, Nat.shiftRight_eq_div_pow]
  have := b.isLt
  omega

end

end

/-- Settles O24: each event of a bus in its cases, and the layouts of a send and of a reply. -/
theorem sendsWaitRetryAndIgnore : Obligations.SendsWaitRetryAndIgnore := by
  refine ⟨fun s h hs => ⟨fun hi => ?_, fun t ht => ⟨fun hw => ?_, fun stop hw => ?_, fun lane bytes hbad => ?_⟩⟩,
    valveCommand_bytes, fun _ => decodeValveReply_of_length,
    fun b0 b1 b2 b3 => ⟨decodeValveReply_of_bad, fun hcheck hcode =>
      ⟨_, decodeValveReply_of_good hcheck hcode, toNat_high_code b0, beq_iff_eq, rfl⟩⟩⟩
  · refine ⟨?_, ?_, fun lane bytes => ?_⟩
    · rw [exec_commandSent hs, commandSent_of_idle hi]
    · rw [exec_replyWaitExpiry hs, replyWaitExpiry_of_idle hi]
    · rw [exec_valveReply hs, valveReply_of_idle hi]
  · rw [exec_replyWaitExpiry hs, replyWaitExpiry_of_unsent ht hw, exec_commandSent hs, commandSent_of_unsent ht hw]
    exact ⟨rfl, rfl⟩
  · rw [exec_commandSent hs, commandSent_of_sent ht hw, exec_replyWaitExpiry hs]
    refine ⟨rfl, fun hd => ?_, fun hd hk hr => ?_⟩
    · rw [replyWaitExpiry_of_waiting ht hw hd]
    · rw [replyWaitExpiry_of_due ht hw hd, if_neg hk, if_neg (Bool.eq_false_iff.1 hr)]
      rfl
  · rw [exec_valveReply hs, valveReply_of_ignored ht hbad]

/-- Settles O27: the end of a send on either lane, whether a good reply or its wait has ended it. -/
theorem closeAllSendsOnBothLanes : Obligations.CloseAllSendsOnBothLanes := by
  intro s h t hs ht hk b ended
  have hends : ∀ drewDone, closeAllSendEnds h { t with drewDone := drewDone } s = ended drewDone := by
    intro drewDone
    obtain ⟨kind, nozzle, ident, lane, tag, retry, waitEnd, drew⟩ := t
    cases lane with
    | a => rfl
    | b => cases drewDone <;> rfl
  refine ⟨fun stop hw hd => ?_, fun bytes v hv htag hw => ?_⟩
  · rw [exec_replyWaitExpiry hs, replyWaitExpiry_of_due ht hw hd, if_pos hk]
    exact congrArg _ (hends t.drewDone)
  · rw [exec_valveReply hs, valveReply_of_good ht hv htag hw, if_pos hk]
    exact congrArg _ (hends _)

end Sys2Proof.Machine
end

section
/-! TEST and LANE (O48): R125, R143, R144. -/

namespace Sys2Proof.Machine

section
variable {s : State} {addr : Byte}

/-! ### TEST -/

/-- An offer to the empty queue of a nozzle in service creates its one entry (R67). -/
theorem offer_of_empty {g : Nat} {c e : Time} (prio : Nat) (o : Origin) (h : (s.nozzle g).state = .inService)
    (hq : s.queue g = []) : (offer g c e prio o s).1 = { s with firing := { s.firing with
      queues := Tab.set [] s.firing.queues g [newEntry s c e prio o]
      nextIdent := s.firing.nextIdent + 1 } } := by
  have htouched : touchedEntries s g c e = [] := by rw [touchedEntries, hq, List.filter_nil]
  rw [offer_of_untouched prio o h htouched, hq]
  rfl

theorem exec_test (g w1 w0 : Byte) (h : Heard s addr) : exec (.test addr [g, w1, w0]) s = .next
    (giveReply 0x10 (cmdTest [g, w1, w0] s).2 (cmdTest [g, w1, w0] s).1) :=
  hostCommand_heard s 0x10 false (cmdTest [g, w1, w0]) h (by simp)

theorem cmdTest_of_large {g w1 w0 : Byte} (hg : 160 ≤ g.toNat) : cmdTest [g, w1, w0] s = refuse .outOfRange s := by
  have hok : nozzleIdOk g = false := Bool.eq_false_iff.2 fun hok => absurd ((nozzleIdOk_iff g).1 hok) (Nat.not_lt.2 hg)
  simp only [cmdTest, hok, Bool.not_false, if_true]

/-- The checks of a TEST after its nozzle id (R143). -/
theorem cmdTest_of_busy {g w1 w0 : Byte} (hg : g.toNat < 160)
    (hbusy : s.ctl.op ≠ .standby ∨ (s.nozzle g.toNat).state ≠ .inService ∨ s.queue g.toNat ≠ []) :
    cmdTest [g, w1, w0] s = refuse .notNow s := by
  simp only [cmdTest, (nozzleIdOk_iff g).2 hg, Bool.not_true, Bool.false_eq_true, if_false]
  by_cases hop : s.ctl.op = .standby
  · by_cases hin : (s.nozzle g.toNat).state = .inService
    · have hq : s.queue g.toNat ≠ [] := (hbusy.resolve_left (not_not.2 hop)).resolve_left (not_not.2 hin)
      simp [hop, State.inService, hin, hq]
    · simp [hop, State.inService, hin]
  · rw [if_pos hop]

/-- A TEST that passes its checks (R144). -/
theorem cmdTest_taken {g w1 w0 : Byte} (hg : g.toNat < 160) (hop : s.ctl.op = .standby)
    (hin : (s.nozzle g.toNat).state = .inService) (hq : s.queue g.toNat = [])
    (hw : s.settings.widthMin ≤ s.settings.widthCap) :
    let width := max s.settings.widthMin (min s.settings.widthCap (num16 w1 w0))
    let start := s.clk.now + BitVec.ofNat 32 s.settings.leadMin
    let stop := start + BitVec.ofNat 32 width
    cmdTest [g, w1, w0] s =
      ((offer g.toNat start stop 0 .test (closeWindow s)).1,
        ⟨if width = num16 w1 w0 then .done else .clamped, bytes32 start.toNat ++ bytes32 stop.toNat⟩) := by
  intro width start stop
  have hclamped := clampedIf_eq (b := width != num16 w1 w0) (kept := width = num16 w1 w0) bne_iff_ne
  rw [← hclamped]
  simp only [cmdTest, (nozzleIdOk_iff g).2 hg, hop, State.inService, hin, hq, clampNat_eq hw, Bool.not_true, ne_eq,
    not_true_eq_false, beq_self_eq_true, List.isEmpty_nil, Bool.false_eq_true, if_false]
  rfl

/-! ### LANE -/

theorem exec_lane (c l : Byte) (h : Heard s addr) : exec (.lane addr [c, l]) s = .next
    (giveReply 0x11 (cmdLane [c, l] s).2 (cmdLane [c, l] s).1) :=
  hostCommand_heard s 0x11 false (cmdLane [c, l]) h (by simp)

/-- A LANE that names a chute and a lane (R125). -/
theorem cmdLane_taken {c l : Byte} {h : Chute} {lane : Lane} (hc : c.toNat = h.val) (hl : laneByte l = some lane) :
    cmdLane [c, l] s = takeDone (closeWindow (s.setBus h { s.busOf h with active := lane })) := by
  simp only [cmdLane, chuteByte_of_val hc, hl]

theorem laneByte_of_large {l : Byte} (hl : 2 ≤ l.toNat) : laneByte l = none := by
  have h0 : l ≠ 0 := by
    rintro rfl
    simp at hl
  have h1 : l ≠ 1 := by
    rintro rfl
    simp at hl
  rw [laneByte, if_neg h0, if_neg h1]

theorem cmdLane_of_large {c l : Byte} (h : 4 ≤ c.toNat ∨ 2 ≤ l.toNat) : cmdLane [c, l] s = refuse .outOfRange s := by
  obtain hc | hl := h
  · simp only [cmdLane, chuteByte_of_large hc]
  · simp only [cmdLane, laneByte_of_large hl]
    cases chuteByte c <;> rfl

end

/-- Settles O48: TEST by its checks in order, LANE by the bytes that name a chute and a lane. -/
theorem testAndLane : Obligations.TestAndLane := by
  intro s addr g w1 w0 c l h hw
  refine ⟨?_, fun k hc => ⟨fun hl => ?_, fun hl => ?_⟩, fun hlarge => ?_⟩
  · rw [exec_test g w1 w0 h]
    refine congrArg _ ?_
    split
    · rw [cmdTest_of_large ‹_›]
      rfl
    · have hg : g.toNat < 160 := Nat.not_le.1 ‹_›
      split
      · rw [cmdTest_of_busy hg ‹_›]
        rfl
      · rename_i hfree
        push Not at hfree
        obtain ⟨hop, hin, hq⟩ := hfree
        rw [cmdTest_taken hg hop hin hq hw, giveReply_eq]
        simp only
        rw [offer_of_empty (s := closeWindow s) 0 .test hin hq]
        rfl
  · rw [exec_lane c l h, cmdLane_taken hc (show laneByte l = some .a by rw [hl]; rfl)]
    rfl
  · rw [exec_lane c l h, cmdLane_taken hc (show laneByte l = some .b by rw [hl]; rfl)]
    rfl
  · rw [exec_lane c l h, cmdLane_of_large hlarge]
    rfl

end Sys2Proof.Machine
end

section
/-! What a completion does to the nozzle record (O25): R126 to R129, R134, R138. -/

namespace Sys2Proof.Machine

/-! ### The record -/

/-- A record made FAILED with a cause, unless it is FAILED already (R134). -/
def NozzleRecord.failedBy (cause : FailureCause) (r : NozzleRecord) : NozzleRecord :=
  if r.state = .failed then r else { r with state := .failed, cause := cause }

/-- The record after an OPEN with DONE and latency m (R126, R127). -/
def NozzleRecord.opened (r : NozzleRecord) (learning : Bool) (m : Nat) : NozzleRecord :=
  let r' : NozzleRecord := { r with wear := min (r.wear + 1) 4294967295, misses := 0, lastResult := .done }
  if m = 0 then r'
  else if learning = false then { r' with lastLatency := m }
  else { r' with
    lastLatency := m
    latency := (max 0 (min 4095 ((r.latency : Int) + ((m : Int) - r.latency + 4) / 8))).toNat }

/-- The learned latency, its eighth rounded toward the lower whole number (R127). -/
theorem learn_eq (v m : Nat) : learn v m = (max 0 (min 4095 ((v : Int) + ((m : Int) - v + 4) / 8))).toNat := by
  unfold learn
  rw [Int.fdiv_eq_ediv_of_nonneg _ (by decide)]
  exact congrArg Int.toNat (clampInt_eq (by decide) _)

section
variable {s : State} {g : Nat}

theorem openDone_nozzles (m : Nat) : (openDone g m s).nozzles =
    Tab.set .cold s.nozzles g ((s.nozzle g).opened (workingChute s (chuteOf g)).learning m) := by
  unfold openDone NozzleRecord.opened
  simp only [learn_eq]
  cases (workingChute s (chuteOf g)).learning <;> rfl

theorem makeFailed_setNozzle (cause : FailureCause) (r : NozzleRecord) :
    (makeFailed g cause (s.setNozzle g r)).nozzle g = r.failedBy cause := by
  rw [makeFailed_nozzle, nozzle_setNozzle_same]
  rfl

theorem openNoReply_nozzle : (openNoReply g s).nozzle g =
    let r : NozzleRecord := { s.nozzle g with misses := min ((s.nozzle g).misses + 1) 15, lastResult := .noReply }
    if s.settings.missLimit ≤ r.misses then r.failedBy .misses else r := by
  unfold openNoReply
  simp only
  split
  · rw [if_pos ‹_›]
    exact makeFailed_setNozzle .misses _
  · rw [if_neg ‹_›]
    exact nozzle_setNozzle_same ..

theorem openCoilFault_nozzle : (openCoilFault g s).nozzle g =
    NozzleRecord.failedBy .openCoilFault { s.nozzle g with lastResult := .coilFault } :=
  makeFailed_setNozzle .openCoilFault _

theorem closeDone_nozzle : (closeDone g s).nozzle g = { s.nozzle g with lastResult := .done } :=
  nozzle_setNozzle_same ..

theorem closeNotConfirmed_nozzle (result : LastResult) : (closeNotConfirmed g result s).nozzle g =
    NozzleRecord.failedBy .closeNotConfirmed { s.nozzle g with lastResult := result } :=
  makeFailed_setNozzle .closeNotConfirmed _

end

/-- A result acts on the record of the transaction's nozzle alone (7.6). -/
theorem nozzleEffect_nozzle_other (t : Transaction) (result : LastResult) (m : Nat) (s : State) {g : Nat}
    (hg : g ≠ t.nozzle) : (nozzleEffect t result m s).nozzle g = s.nozzle g := by
  have hset : ∀ r, (s.setNozzle t.nozzle r).nozzle g = s.nozzle g := fun _ => nozzle_setNozzle_other _ hg _
  have hfailed : ∀ cause r, (makeFailed t.nozzle cause (s.setNozzle t.nozzle r)).nozzle g = s.nozzle g := fun cause r =>
    (makeFailed_nozzle_other _ _ cause hg).trans (hset r)
  unfold nozzleEffect
  split
  · exact hset _
  · unfold openNoReply
    simp only
    split
    · exact hfailed _ _
    · exact hset _
  · exact hfailed _ _
  · exact hset _
  · exact hfailed _ _
  · exact hfailed _ _
  · rfl

/-! ### What leaves the records as they are -/

theorem conclude_nozzles (s : State) : (conclude s).nozzles = s.nozzles := by
  have hends : (concludePurge (concludeDry s)).nozzles = s.nozzles := by rw [concludePurge_frame, concludeDry_eq]
  unfold conclude
  obtain ⟨he, -⟩ | ⟨he, -⟩ := endWindDown_cases (concludePurge (concludeDry s))
  · rw [he, hends]
  · rw [he, (warmReset_keeps _).2.1, hends]

theorem conclude_grantNext_nozzles (h : Chute) (s : State) : (conclude (grantNext h s)).nozzles = s.nozzles := by
  rw [conclude_nozzles, grantNext_frame]

/-- A CLOSE ALL changes no record (R122). -/
theorem closeAllSendEnds_nozzles (h : Chute) (t : Transaction) (s : State) :
    (closeAllSendEnds h t s).nozzles = s.nozzles := by
  unfold closeAllSendEnds
  split
  · rfl
  · rw [conclude_nozzles, freeBus_frame]
    split <;> rfl

/-! ### The completion before the grant -/

section
variable {s : State} {h : Chute} {t : Transaction} {result : LastResult} {m : Nat}

/-- The lane flipped, where the completion is of an answered retry (R120). -/
def laneJudged (h : Chute) (t : Transaction) (result : LastResult) (s : State) : State :=
  if t.retry && result != .noReply then flipLane h t.lane s else s

theorem laneJudged_frame : laneJudged h t result s = { s with
    bus := (laneJudged h t result s).bus, tally := (laneJudged h t result s).tally
    notices := (laneJudged h t result s).notices } := by
  unfold laneJudged
  split <;> rfl

/-- A completed OPEN or CLOSE, whatever bus carries it, before the grant (R121). -/
def endedState (h : Chute) (t : Transaction) (result : LastResult) (m : Nat) (s : State) : State :=
  freedState h (dispatchEffect t result (nozzleEffect t result m (laneJudged h t result s)))

theorem completeTransaction_ended :
    completeTransaction h t result m s = conclude (grantNext h (endedState h t result m s)) := rfl

theorem endedState_nozzles :
    (endedState h t result m s).nozzles = (nozzleEffect t result m (laneJudged h t result s)).nozzles := by
  show (dispatchEffect t result _).nozzles = _
  rw [dispatchEffect_frame]

theorem endedState_nozzle (g : Nat) :
    (endedState h t result m s).nozzle g = (nozzleEffect t result m (laneJudged h t result s)).nozzle g :=
  congrArg (fun l => Tab.get NozzleRecord.cold l g) endedState_nozzles

theorem laneJudged_nozzle (g : Nat) : (laneJudged h t result s).nozzle g = s.nozzle g := by
  rw [laneJudged_frame]
  rfl

/-- The completion acts on no other record, and on no block but those of nozzles, firings, buses, counts and notices. -/
theorem endedState_alone : (∀ g, g ≠ t.nozzle → (endedState h t result m s).nozzle g = s.nozzle g) ∧
    endedState h t result m s = { s with
      nozzles := (endedState h t result m s).nozzles, firing := (endedState h t result m s).firing
      bus := (endedState h t result m s).bus, tally := (endedState h t result m s).tally
      notices := (endedState h t result m s).notices } := by
  refine ⟨fun g hg => ?_, ?_⟩
  · rw [endedState_nozzle, nozzleEffect_nozzle_other t result m _ hg, laneJudged_nozzle]
  · unfold endedState freedState
    rw [dispatchEffect_frame, nozzleEffect_frame, laneJudged_frame]
    rfl

/-- An OPEN with DONE (R126, R127). -/
theorem endedState_of_openDone (hk : t.kind = .opn) : (endedState h t .done m s).nozzles =
    Tab.set .cold s.nozzles t.nozzle ((s.nozzle t.nozzle).opened (workingChute s (chuteOf t.nozzle)).learning m) := by
  rw [endedState_nozzles]
  simp only [nozzleEffect, hk]
  rw [openDone_nozzles, laneJudged_frame]
  rfl

/-- An OPEN with COIL FAULT (R129). -/
theorem endedState_of_openCoilFault (hk : t.kind = .opn) : (endedState h t .coilFault m s).nozzle t.nozzle =
    NozzleRecord.failedBy .openCoilFault { s.nozzle t.nozzle with lastResult := .coilFault } := by
  rw [endedState_nozzle]
  simp only [nozzleEffect, hk]
  rw [openCoilFault_nozzle, laneJudged_nozzle]

/-- An OPEN with NO REPLY (R128). -/
theorem endedState_of_openNoReply (hk : t.kind = .opn) : (endedState h t .noReply m s).nozzle t.nozzle =
    let r : NozzleRecord :=
      { s.nozzle t.nozzle with misses := min ((s.nozzle t.nozzle).misses + 1) 15, lastResult := .noReply }
    if s.settings.missLimit ≤ r.misses then r.failedBy .misses else r := by
  rw [endedState_nozzle]
  simp only [nozzleEffect, hk]
  rw [openNoReply_nozzle, laneJudged_nozzle, laneJudged_frame]

/-- A CLOSE with DONE (R129). -/
theorem endedState_of_closeDone (hk : t.kind = .close) : (endedState h t .done m s).nozzle t.nozzle =
    { s.nozzle t.nozzle with lastResult := .done } := by
  rw [endedState_nozzle]
  simp only [nozzleEffect, hk]
  rw [closeDone_nozzle, laneJudged_nozzle]

/-- A CLOSE that is not confirmed (R129). -/
theorem endedState_of_closeFailed (hk : t.kind = .close) (hr : result = .noReply ∨ result = .coilFault) :
    (endedState h t result m s).nozzle t.nozzle =
      NozzleRecord.failedBy .closeNotConfirmed { s.nozzle t.nozzle with lastResult := result } := by
  rw [endedState_nozzle]
  obtain rfl | rfl := hr
  all_goals
    simp only [nozzleEffect, hk]
    rw [closeNotConfirmed_nozzle, laneJudged_nozzle]

end

/-- Settles O25: each result by its effect on the record of the nozzle; the grant and the endings leave the records. -/
theorem completionActsOnTheNozzleRecord : Obligations.CompletionActsOnTheNozzleRecord := by
  intro s h t hs ht r failed alone
  refine ⟨fun bytes v hv htag hw => ⟨fun hk => ?_, fun hk => ?_⟩, fun stop hstop hd hretry hk => ?_⟩
  · refine ⟨_, exec_valveReply hs t.lane bytes, ?_⟩
    rw [valveReply_of_good ht hv htag hw, if_pos hk]
    exact closeAllSendEnds_nozzles ..
  · refine ⟨endedState h t (if v.done then .done else .coilFault) v.latency s, ?_, conclude_grantNext_nozzles .., ?_⟩
    · rw [exec_valveReply hs, valveReply_of_good ht hv htag hw, if_neg hk, completeTransaction_ended]
    · cases hdone : v.done with
      | true => exact ⟨fun ho _ => endedState_of_openDone ho, nofun, fun hc _ => endedState_of_closeDone hc, nofun,
          endedState_alone⟩
      | false => exact ⟨nofun, fun ho _ => endedState_of_openCoilFault ho, nofun,
          fun hc _ => endedState_of_closeFailed hc (.inr rfl), endedState_alone⟩
  · refine ⟨endedState h t .noReply 0 s, ?_, conclude_grantNext_nozzles .., ?_, endedState_alone⟩
    · rw [exec_replyWaitExpiry hs, replyWaitExpiry_of_due ht hstop hd, if_neg hk, if_pos hretry,
        completeTransaction_ended]
    · cases hkind : t.kind with
      | closeAll => exact absurd hkind hk
      | opn => exact endedState_of_openNoReply hkind
      | close => exact endedState_of_closeFailed hkind (.inl rfl)

end Sys2Proof.Machine
end

section
/-! The ranges of the settings, of LINE PERIOD and of the nozzle records (O54): R7, R126 to R131, R134, R137 to R140,
R171. Resets apart, a SET, a NOZZLE WRITE and the result of an OPEN or a CLOSE are all that writes one of these values. -/

namespace Sys2Proof.Machine

/-! ### What has a range -/

/-- The settings in their ranges, LINE PERIOD apart (10.3, R171). -/
structure Settings.InRange (t : Settings) : Prop where
  airTrim : t.airTrim ≤ 127
  maxAge : 16 ≤ t.maxAge ∧ t.maxAge ≤ 1024
  leadMin : 100 ≤ t.leadMin ∧ t.leadMin ≤ 2000
  widthMin : 200 ≤ t.widthMin ∧ t.widthMin ≤ 2000
  min_le_max : t.widthMin ≤ t.widthMax
  max_le_cap : t.widthMax ≤ t.widthCap
  widthMax : t.widthMax ≤ 10000
  widthCap : 2000 ≤ t.widthCap ∧ t.widthCap ≤ 30000
  valveGap : ∀ h : Chute, 200 ≤ t.valveGap.get h ∧ t.valveGap.get h ≤ 5000
  replyWait : t.replyWait ≤ 3
  missLimit : 1 ≤ t.missLimit ∧ t.missLimit ≤ 15
  windDownLimit : 20 ≤ t.windDownLimit ∧ t.windDownLimit ≤ 500
  group : t.group = 0 ∨ (33 ≤ t.group.toNat ∧ t.group.toNat ≤ 62)

/-- LINE PERIOD in its range (R7). -/
def PeriodInRange (p : Nat) : Prop := 50 ≤ p ∧ p ≤ 2000

/-- The values that have a range: the settings, LINE PERIOD and the nozzle records. -/
def State.stored (s : State) : Settings × Nat × Tab NozzleRecord := (s.settings, s.clk.period, s.nozzles)

/-- Every value that has a range lies in it. -/
def ValuesInRange (s : State) : Prop :=
  s.settings.InRange ∧ PeriodInRange s.clk.period ∧ ∀ g, (Tab.get .cold s.nozzles g).inRange

theorem settingsInRange_iff (s : State) :
    SettingsInRange s ↔ s.settings.InRange ∧ PeriodInRange s.clk.period := by
  constructor
  · rintro ⟨airTrim, period, maxAge, leadMin, widthMin, minMax, maxCap, widthMax, widthCap, valveGap, replyWait,
      missLimit, windDownLimit, group⟩
    exact ⟨⟨airTrim, maxAge, leadMin, widthMin, minMax, maxCap, widthMax, widthCap, valveGap, replyWait, missLimit,
      windDownLimit, group⟩, period⟩
  · rintro ⟨h, period⟩
    exact ⟨h.airTrim, period, h.maxAge, h.leadMin, h.widthMin, h.min_le_max, h.max_le_cap, h.widthMax, h.widthCap,
      h.valveGap, h.replyWait, h.missLimit, h.windDownLimit, h.group⟩

theorem valuesInRange_iff (s : State) : ValuesInRange s ↔ SettingsInRange s ∧ NozzlesInRange s := by
  rw [settingsInRange_iff, and_assoc]
  rfl

section
variable {s t : State}

theorem ValuesInRange.of_stored (h : ValuesInRange s) (he : t.stored = s.stored) : ValuesInRange t := by
  obtain ⟨hs, hp, hn⟩ : t.settings = s.settings ∧ t.clk.period = s.clk.period ∧ t.nozzles = s.nozzles := by
    simpa [State.stored] using he
  unfold ValuesInRange
  rwa [hs, hp, hn]

/-- What leaves the values alone keeps them in range. -/
theorem keeps_range_of_stored {f : State → State} (hf : ∀ s, (f s).stored = s.stored) : Keeps ValuesInRange f :=
  fun s h => h.of_stored (hf s)

/-- A frame that gives the values back leaves them alone. -/
theorem stored_of_frame {u : State} (h : t = u) (hu : u.stored = s.stored) : t.stored = s.stored := by
  rw [h, hu]

theorem stored_withCtl (s : State) (c : Controller) : ({ s with ctl := c } : State).stored = s.stored := rfl

/-- Whichever state a choice takes. -/
theorem stored_ite {c : Prop} [Decidable c] {u : State} (ht : t.stored = s.stored) (hu : u.stored = s.stored) :
    (if c then t else u).stored = s.stored := by
  split
  · exact ht
  · exact hu

theorem ValuesInRange.nozzle (h : ValuesInRange s) (g : Nat) : (s.nozzle g).inRange := h.2.2 g

theorem ValuesInRange.setNozzle (h : ValuesInRange s) {r : NozzleRecord} (hr : r.inRange) (g : Nat) :
    ValuesInRange (s.setNozzle g r) := by
  obtain ⟨hs, hp, hn⟩ := h
  refine ⟨hs, hp, fun g' => ?_⟩
  by_cases hg : g' = g
  · subst hg
    exact (congrArg NozzleRecord.inRange (nozzle_setNozzle_same s g' r)).mpr hr
  · exact (congrArg NozzleRecord.inRange (nozzle_setNozzle_other s hg r)).mpr (hn g')

end

theorem settings_default_inRange : Settings.default.InRange := by
  constructor <;> decide

theorem coldPeriod_inRange : PeriodInRange coldPeriod := ⟨by decide, by decide⟩

theorem cold_inRange : NozzleRecord.cold.inRange :=
  ⟨by decide, by decide, by decide, by decide, by decide, nofun, nofun⟩

end Sys2Proof.Machine
end

section
/-! What leaves every value that has a range alone (O54): resets, starts, ends, grants, planning, verdicts, swaps. -/

namespace Sys2Proof.Machine

variable (s : State)

/-! ### Ends and resets -/

@[simp] theorem stored_grantNext (h : Chute) : (grantNext h s).stored = s.stored :=
  stored_of_frame (grantNext_frame s h) rfl

@[simp] theorem stored_grantAll : (grantAll s).stored = s.stored := stored_of_frame (grantAll_frame s) rfl

@[simp] theorem stored_freeBus (h : Chute) : (freeBus h s).stored = s.stored :=
  stored_of_frame (freeBus_frame s h) rfl

@[simp] theorem stored_enterState (op : OpState) : (enterState op s).stored = s.stored :=
  stored_of_frame (enterState_eq s op) rfl

@[simp] theorem stored_concludeDry : (concludeDry s).stored = s.stored := stored_of_frame (concludeDry_eq s) rfl

@[simp] theorem stored_concludePurge : (concludePurge s).stored = s.stored :=
  stored_of_frame (concludePurge_frame s) rfl

/-- A warm reset keeps the settings, LINE PERIOD and the nozzle records (R132, R161). -/
@[simp] theorem stored_warmReset : (warmReset s).stored = s.stored := stored_of_frame (warmReset_eq s) rfl

@[simp] theorem stored_endWindDown : (endWindDown s).stored = s.stored := stored_ite (stored_warmReset s) rfl

@[simp] theorem stored_takeOwedReset : (takeOwedReset s).stored = s.stored := stored_ite (stored_warmReset s) rfl

@[simp] theorem stored_conclude : (conclude s).stored = s.stored := by simp [conclude]

/-! ### Giving up work -/

theorem stored_estopAssertion : (estopAssertion s).stored = s.stored :=
  stored_ite rfl (stored_of_frame (emergencyStop_eq _) (stored_takeOwedReset s))

theorem stored_windDownLimitExpiry : (windDownLimitExpiry s).stored = s.stored := by
  have hexpiry : ∀ w, (windDownExpiry w s).stored = s.stored := fun w => by
    rw [windDownExpiry_eq, stored_conclude, stored_grantAll, windDownReduced_eq]
    rfl
  unfold windDownLimitExpiry
  split
  · exact stored_ite (hexpiry _) rfl
  · rfl

/-! ### The sighting port, the planner and the held list -/

theorem stored_placeAndCount (h : Chute) (k prio : Nat) (plan : List PlanFiring) :
    (placeAndCount h k prio plan s).stored = s.stored := stored_of_frame (placeAndCount_frame s h k prio plan) rfl

theorem stored_takeVerdict (h : Chute) (tag : Byte) (confirm : Bool) :
    (takeVerdict h tag confirm s).stored = s.stored := by
  obtain ⟨t, he | he, ht⟩ := takeVerdict_frame s h tag confirm
  · rw [he]
    exact stored_of_frame ht rfl
  · rw [he, stored_endWindDown]
    exact stored_of_frame ht rfl

theorem stored_admitSighting (g : Sighting) : (admitSighting g s).stored = s.stored :=
  stored_ite (stored_ite rfl rfl) rfl

theorem stored_recordByte (b : Byte) : (recordByte s b).stored = s.stored := by
  have hcomplete : ∀ bytes, (completeRecord bytes s).stored = s.stored := fun bytes => by
    unfold completeRecord
    split
    · rfl
    · rfl
    · exact stored_admitSighting (setRecordRx _ s) _
    · exact stored_takeVerdict (setRecordRx _ s) _ _ _
  unfold recordByte
  split
  · rfl
  · exact stored_ite rfl (hcomplete _)

theorem stored_recordGap : (recordGap s).stored = s.stored := by
  unfold recordGap
  split <;> rfl

theorem stored_plannerTake : (plannerTake s).stored = s.stored := by
  unfold plannerTake
  split <;> rfl

theorem stored_nozzleSetStep (r : PlanRecord) : (nozzleSetStep r s).stored = s.stored := by
  have hform : ∀ r, (formNozzleSet r s).stored = s.stored := fun r => by
    refine stored_ite rfl ?_
    exact stored_ite (s := s) (t := countSighting _ _ _ s) rfl rfl
  exact stored_ite rfl (hform _)

theorem stored_confidenceStep (r : PlanRecord) : (confidenceStep r s).stored = s.stored :=
  stored_ite rfl (stored_of_frame (handOff_frame (endPlanning s) _) rfl)

theorem stored_deadlineExpiry (h : Chute) (tag : Byte) : (deadlineExpiry h tag s).stored = s.stored := by
  unfold deadlineExpiry
  split
  · refine stored_ite ?_ rfl
    rw [stored_endWindDown]
    exact stored_of_frame (expireSighting_frame (removeHeld h tag s) _) rfl
  · rfl

/-! ### Dispatchers and valve buses -/

theorem stored_entryStart (g : Nat) : (entryStart g s).stored = s.stored := by
  unfold entryStart
  split
  · rw [stored_conclude, stored_grantNext]
    exact stored_of_frame (judgeStart_frame s g _) rfl
  · rfl

theorem stored_entryEnd (g : Nat) : (entryEnd g s).stored = s.stored := by
  unfold entryEnd
  split
  · rw [stored_conclude, stored_grantNext]
    exact stored_of_frame (endEntry_frame s g _) rfl
  · rfl

theorem stored_commandSent (h : Chute) : (commandSent h s).stored = s.stored := by
  unfold commandSent
  simp only
  split
  · exact stored_ite rfl rfl
  · rfl

theorem stored_closeAllSendEnds (h : Chute) (t : Transaction) : (closeAllSendEnds h t s).stored = s.stored := by
  unfold closeAllSendEnds
  split
  · rfl
  · rw [stored_conclude, stored_freeBus]
    exact stored_ite rfl rfl

/-! ### Line clock and purge -/

/-- A pulse keeps LINE PERIOD, whatever the banks do with its line (R3, R7). -/
theorem stored_lsyncPulse : (lsyncPulse s).stored = s.stored := by
  have hsettle : ∀ n u, (judgeSettle n u).stored = u.stored := fun n u => by
    unfold judgeSettle
    split
    · rfl
    · exact stored_ite (stored_ite rfl rfl) rfl
  refine stored_ite rfl ((hsettle _ _).trans ?_)
  exact stored_ite rfl rfl

@[simp] theorem stored_purgeOffer (width n : Nat) (h : Chute) : (purgeOffer width n h s).stored = s.stored :=
  stored_of_frame (purgeOffer_frame s width n h) rfl

theorem stored_makeTurn (p : Purge) : (makeTurn p s).stored = s.stored := by
  unfold makeTurn
  simp only [stored_conclude, stored_withCtl, stored_purgeOffer]

theorem stored_purgeTurn : (purgeTurn s).stored = s.stored := by
  unfold purgeTurn
  split
  · exact stored_ite (stored_makeTurn s _) rfl
  · rfl

/-! ### The transmitter -/

theorem stored_replyTurnaroundEnd : (replyTurnaroundEnd s).stored = s.stored := by
  unfold replyTurnaroundEnd
  split
  · exact stored_ite rfl rfl
  · rfl

theorem stored_replySent : (replySent s).stored = s.stored := by
  unfold replySent
  split <;> rfl

end Sys2Proof.Machine
end

section
/-! The nozzle records in their ranges (O54): the results of OPENs and CLOSEs, and NOZZLE WRITE (R126 to R129, R131, R134,
R137 to R140). -/

namespace Sys2Proof.Machine

/-! ### One record -/

section
variable {r : NozzleRecord}

/-- A failure has a cause, and the other fields stay (R134). -/
theorem NozzleRecord.inRange.failed (h : r.inRange) {cause : FailureCause} (hc : cause ≠ .none) :
    NozzleRecord.inRange { r with state := .failed, cause := cause } := by
  obtain ⟨hoffset, hlatency, hwear, hmisses, hlast, -, -⟩ := h
  exact ⟨hoffset, hlatency, hwear, hmisses, hlast, fun _ => hc, nofun⟩

theorem NozzleRecord.inRange.withResult (h : r.inRange) (result : LastResult) :
    NozzleRecord.inRange { r with lastResult := result } := h

/-- The miss count stays at 15 (R128). -/
theorem NozzleRecord.inRange.missed (h : r.inRange) (result : LastResult) :
    NozzleRecord.inRange { r with misses := min (r.misses + 1) Config.missMax, lastResult := result } := by
  obtain ⟨hoffset, hlatency, hwear, -, hlast, hfailed, hserved⟩ := h
  exact ⟨hoffset, hlatency, hwear, min_le_right _ _, hlast, hfailed, hserved⟩

/-- What a reply measures and what is learned of it stay within the greatest latency, the wear count at its top (R126,
R127). -/
theorem NozzleRecord.inRange.opened (h : r.inRange) (learning : Bool) {m : Nat} (hm : m ≤ 4095) :
    (r.opened learning m).inRange := by
  obtain ⟨hoffset, hlatency, -, -, hlast, hfailed, hserved⟩ := h
  have hwear : min (r.wear + 1) 4294967295 ≤ 4294967295 := min_le_right _ _
  unfold NozzleRecord.opened
  simp only
  split
  · exact ⟨hoffset, hlatency, hwear, by simp, hlast, hfailed, hserved⟩
  · split
    · exact ⟨hoffset, hlatency, hwear, by simp, hm, hfailed, hserved⟩
    · exact ⟨hoffset, by simp only; omega, hwear, by simp, hm, hfailed, hserved⟩

/-- A nozzle that is written IN SERVICE has no cause left (R138). -/
theorem NozzleRecord.inRange.writeState (h : r.inRange) (code : Byte) : (r.writeState code).inRange := by
  obtain ⟨hoffset, hlatency, hwear, hmisses, hlast, -, -⟩ := id h
  unfold NozzleRecord.writeState
  split
  · exact ⟨hoffset, hlatency, hwear, hmisses, hlast, nofun, nofun⟩
  · split
    · exact ⟨hoffset, hlatency, hwear, by simp, hlast, nofun, fun _ => rfl⟩
    · exact h

/-- The offset and the latency are clamped as they are written, a wear count is written as it came (R137, R139, R140). -/
theorem NozzleRecord.inRange.writeValues (h : r.inRange) {offset : Option Int} {latency wear : Option Nat}
    (hw : ∀ w ∈ wear, w ≤ 4294967295) : NozzleRecord.inRange { r with
      offset := (offset.map clampOffset).getD r.offset
      latency := (latency.map clampLatency).getD r.latency
      wear := wear.getD r.wear } := by
  obtain ⟨hoffset, hlatency, hwear, hmisses, hlast, hfailed, hserved⟩ := h
  refine ⟨?_, ?_, ?_, hmisses, hlast, hfailed, hserved⟩
  · cases offset with
    | none => exact hoffset
    | some o => exact clampInt_mem (lo := -255) (hi := 255) (by decide) o
  · cases latency with
    | none => exact hlatency
    | some v => exact (clampNat_mem (lo := 0) (hi := 4095) (by decide) v).2
  · cases wear with
    | none => exact hwear
    | some w => exact hw w rfl

theorem NozzleRecord.inRange.apply (h : r.inRange) {f : NozzleFields} (hf : ∀ w ∈ f.wear, w ≤ 4294967295) :
    (f.apply r).inRange := by
  obtain ⟨state, offset, latency, wear⟩ := f
  cases state with
  | none => exact h.writeValues hf
  | some code => exact (h.writeState code).writeValues hf

end

/-! ### What the links carry -/

theorem num32_le (b3 b2 b1 b0 : Byte) : num32 b3 b2 b1 b0 ≤ 4294967295 := by
  have h3 := b3.isLt
  have h2 := b2.isLt
  have h1 := b1.isLt
  have h0 := b0.isLt
  unfold num32 num16
  omega

/-- A field of four bytes is at most the greatest wear count. -/
theorem takeFour_le {present : Bool} {l rest : List Byte} {o : Option Nat} (h : takeFour present l = some (o, rest)) :
    ∀ w ∈ o, w ≤ 4294967295 := by
  unfold takeFour at h
  split at h
  all_goals
    split at h
    all_goals cases h
  · rintro w ⟨⟩
    exact num32_le _ _ _ _
  · nofun
  · nofun

theorem readFields_wear_le {presence : Byte} {l : List Byte} {f : NozzleFields} (h : readFields presence l = some f) :
    ∀ w ∈ f.wear, w ≤ 4294967295 := by
  simp only [readFields, Option.bind_eq_bind, Option.bind_eq_some_iff] at h
  obtain ⟨⟨state, l1⟩, -, ⟨offset, l2⟩, -, ⟨latency, l3⟩, -, ⟨wear, l4⟩, hwear, hf⟩ := h
  split at hf
  · cases hf
    exact takeFour_le hwear
  · cases hf

/-- A reply's latency has twelve bits (12.3). -/
theorem decodeValveReply_latency_le {bytes : List Byte} {v : ValveReply} (h : decodeValveReply bytes = some v) :
    v.latency ≤ 4095 := by
  have hlatency : ∀ b1 b2 : Byte, b1.toNat % 16 * 256 + b2.toNat ≤ 4095 := fun b1 b2 => by
    have := b2.isLt
    omega
  unfold decodeValveReply at h
  split at h
  · split at h
    · cases h
    · simp only at h
      split at h
      · cases h
        exact hlatency _ _
      · split at h
        · cases h
          exact hlatency _ _
        · cases h
  · cases h

/-! ### Results (7.6) -/

theorem makeFailed_keeps_range (g : Nat) {cause : FailureCause} (hc : cause ≠ .none) :
    Keeps ValuesInRange (makeFailed g cause) := by
  intro s h
  have hfailed := h.setNozzle ((h.nozzle g).failed hc) g
  unfold makeFailed
  simp only
  split
  · exact h
  · split <;> exact hfailed

theorem openDone_keeps_range (g : Nat) {m : Nat} (hm : m ≤ 4095) : Keeps ValuesInRange (openDone g m) := by
  intro s h
  refine (h.setNozzle ((h.nozzle g).opened (workingChute s (chuteOf g)).learning hm) g).of_stored ?_
  unfold State.stored
  rw [openDone_nozzles]
  rfl

theorem nozzleEffect_keeps_range (t : Transaction) (result : LastResult) {m : Nat} (hm : m ≤ 4095) :
    Keeps ValuesInRange (nozzleEffect t result m) := by
  intro s h
  have hlast : ∀ last, ValuesInRange (s.setNozzle t.nozzle { s.nozzle t.nozzle with lastResult := last }) :=
    fun last => h.setNozzle ((h.nozzle t.nozzle).withResult last) t.nozzle
  unfold nozzleEffect
  split
  · exact openDone_keeps_range t.nozzle hm s h
  · have hmissed := h.setNozzle ((h.nozzle t.nozzle).missed .noReply) t.nozzle
    unfold openNoReply
    simp only
    split
    · exact makeFailed_keeps_range _ (by decide) _ hmissed
    · exact hmissed
  · exact makeFailed_keeps_range _ (by decide) _ (hlast _)
  · exact hlast _
  · exact makeFailed_keeps_range _ (by decide) _ (hlast _)
  · exact makeFailed_keeps_range _ (by decide) _ (hlast _)
  · exact h

theorem completeTransaction_keeps_range (c : Chute) (t : Transaction) (result : LastResult) {m : Nat} (hm : m ≤ 4095) :
    Keeps ValuesInRange (completeTransaction c t result m) := by
  intro s h
  have heffect := nozzleEffect_keeps_range t result hm (laneJudged c t result s)
    (h.of_stored (stored_of_frame laneJudged_frame rfl))
  refine heffect.of_stored ?_
  refine ((stored_conclude _).trans (stored_freeBus _ _)).trans ?_
  exact stored_of_frame (dispatchEffect_frame _ t result) rfl

theorem replyWaitExpiry_keeps_range (c : Chute) : Keeps ValuesInRange (replyWaitExpiry c) := by
  intro s h
  have hretry : ∀ t : Transaction,
      ValuesInRange (if t.retry then completeTransaction c t .noReply 0 s else retry c t s) := by
    intro t
    split
    · exact completeTransaction_keeps_range c t _ (by decide) s h
    · exact h
  unfold replyWaitExpiry
  split
  · exact h
  · split
    · exact h
    · split
      · split
        · exact h.of_stored (stored_closeAllSendEnds s c _)
        · exact hretry _
        · exact hretry _
      · exact h

theorem valveReply_keeps_range (c : Chute) (lane : Lane) (bytes : List Byte) :
    Keeps ValuesInRange (valveReply c lane bytes) := by
  intro s h
  unfold valveReply
  split
  · have hm := decodeValveReply_latency_le ‹_›
    split
    · split
      · exact h.of_stored (stored_closeAllSendEnds s c _)
      · exact completeTransaction_keeps_range c _ _ hm s h
      · exact completeTransaction_keeps_range c _ _ hm s h
    · exact h
  · exact h

/-! ### NOZZLE WRITE -/

theorem nozzleWrite_keeps_range (p : List Byte) : KeepsCmd ValuesInRange (cmdNozzleWrite p) := by
  intro s h
  have hwrite : ∀ g f, (∀ w ∈ f.wear, w ≤ 4294967295) → ValuesInRange (writeNozzle g f s) := fun g f hf => by
    have hset := h.setNozzle ((h.nozzle g).apply hf) g
    unfold writeNozzle
    simp only
    split
    · exact hset.of_stored (stored_conclude _)
    · exact hset
  unfold cmdNozzleWrite
  split
  · split
    · exact h
    · exact keeps_ite h <| keeps_ite h <| keeps_ite h <| keeps_ite h <| hwrite _ _ (readFields_wear_le ‹_›)
  · exact h

end Sys2Proof.Machine
end

section
/-! Every step keeps the settings and the nozzle records in their ranges (O54). -/

namespace Sys2Proof.Machine

/-! ### Events -/

theorem heldInReset_inRange (s : State) : ValuesInRange (heldInReset s) :=
  ⟨settings_default_inRange, coldPeriod_inRange, fun _ => cold_inRange⟩

/-- The end of the cold reset restarts the line clock with its default period (R6, R148). -/
theorem coldResetEnd_keeps_range (straps : BitVec 5) (estop airlow : Bool) :
    Keeps ValuesInRange (coldResetEnd straps estop airlow) := by
  rintro s ⟨hsettings, -, hnozzles⟩
  have hestop : ∀ u, (if estop then coldEstop u else u).stored = u.stored := fun u =>
    stored_ite (stored_enterState { u with ctl := { u.ctl with estop := true } } .halt) rfl
  have hairlow : ∀ u, (if airlow then coldAirlow u else u).stored = u.stored := fun u => stored_ite rfl rfl
  have hstart : ValuesInRange (requestCloseAll { s with
      ctl := { s.ctl with rstn := false }
      clk := LineClock.restarted coldPeriod
      link := { s.link with address := strapAddress straps } }) := ⟨hsettings, coldPeriod_inRange, hnozzles⟩
  exact hstart.of_stored (((hairlow _).trans (hestop _)).trans (stored_grantAll _))

/-- Every event of the part and of its inputs keeps the values in range. -/
theorem events_keep_range : EventsKeep ValuesInRange where
  heldInReset s _ := heldInReset_inRange s
  coldResetEnd := coldResetEnd_keeps_range
  lsyncPulse := keeps_range_of_stored stored_lsyncPulse
  lsyncLow _ h := h
  recordByte b := keeps_range_of_stored fun s => stored_recordByte s b
  recordGap := keeps_range_of_stored stored_recordGap
  collecting _ h := h
  plannerTake := keeps_range_of_stored stored_plannerTake
  endWindDown := keeps_range_of_stored stored_endWindDown
  ageStep _ _ _ h := h.of_stored (stored_ite rfl rfl)
  bankStep _ _ _ h := h
  bandStep _ _ _ h := h.of_stored (stored_ite rfl rfl)
  nozzleSetStep r s _ h := h.of_stored (stored_nozzleSetStep s r)
  sizeBandStep _ _ _ h := h
  widthStep _ _ _ h := h.of_stored (stored_ite rfl rfl)
  flightStep _ _ _ h := h
  seenTimeStep _ _ _ h := h
  perNozzleTimesStep _ _ _ h := h
  leadStep _ _ _ h := h.of_stored (stored_ite rfl rfl)
  confidenceStep r s _ h := h.of_stored (stored_confidenceStep s r)
  placement _ s _ h := h.of_stored (stored_placeAndCount (endPlanning s) _ _ _ _)
  deadlineExpiry c tag := keeps_range_of_stored fun s => stored_deadlineExpiry s c tag
  entryStart g := keeps_range_of_stored fun s => stored_entryStart s g
  entryEnd g := keeps_range_of_stored fun s => stored_entryEnd s g
  grant c := keeps_range_of_stored fun s => (stored_conclude _).trans (stored_grantNext s c)
  commandSent c := keeps_range_of_stored fun s => stored_commandSent s c
  replyWaitExpiry := replyWaitExpiry_keeps_range
  valveReply := valveReply_keeps_range
  estopAssertion := keeps_range_of_stored stored_estopAssertion
  estopRelease _ h := h
  airlowAssertion _ h := h.of_stored (stored_ite rfl rfl)
  airlowRelease _ h := h
  purgeTurn := keeps_range_of_stored stored_purgeTurn
  concludePurge := keeps_range_of_stored stored_concludePurge
  windDownLimitExpiry := keeps_range_of_stored stored_windDownLimitExpiry
  warmReset := keeps_range_of_stored stored_warmReset
  concludeDry := keeps_range_of_stored stored_concludeDry
  replyTurnaroundEnd := keeps_range_of_stored stored_replyTurnaroundEnd
  replySent := keeps_range_of_stored stored_replySent

/-! ### Commands of the state controller -/

theorem linkBlind_range : LinkBlind ValuesInRange where
  setFrameRx _ _ h := h
  controlError _ _ h := h
  giveReply _ _ _ h := h

theorem takeOwedReset_keeps_range : Keeps ValuesInRange takeOwedReset := keeps_range_of_stored stored_takeOwedReset

theorem enterState_keeps_range (op : OpState) : Keeps ValuesInRange (enterState op) :=
  keeps_range_of_stored fun s => stored_enterState s op

theorem goRun_keeps_range (p : List Byte) : KeepsCmd ValuesInRange (cmdGoRun p) := by
  intro s h
  have ht := takeOwedReset_keeps_range s h
  unfold cmdGoRun
  split
  · exact keeps_ite ht <| keeps_ite ht <| keeps_ite ht <| keeps_ite ht <| keeps_ite ht <|
      enterState_keeps_range .run (closeWindow (takeOwedReset s)) ht
  · exact h

theorem goStandby_keeps_range (p : List Byte) : KeepsCmd ValuesInRange (cmdGoStandby p) := by
  intro s h
  have ht := takeOwedReset_keeps_range s h
  unfold cmdGoStandby
  split
  · simp only
    split
    · exact ht
    · exact ht.of_stored (stored_of_frame (standbyFromRun_eq _) rfl)
    · exact ht.of_stored (stored_of_frame (standbyFromPurge_eq _) rfl)
    · exact keeps_ite ht (enterState_keeps_range .standby (closeWindow (takeOwedReset s)) ht)
    · exact ht
  · exact h

theorem stored_startPurge (s : State) (rounds width spacing : Nat) :
    (startPurge rounds width spacing s).stored = s.stored := by
  rw [startPurge_eq]
  exact stored_makeTurn _ _

theorem purge_keeps_range (p : List Byte) : KeepsCmd ValuesInRange (cmdPurge p) := by
  intro s h
  have ht := takeOwedReset_keeps_range s h
  unfold cmdPurge
  split
  · refine keeps_ite ht (keeps_ite ht ?_)
    simp only
    exact ht.of_stored (stored_startPurge _ _ _ _)
  · exact h

theorem restart_keeps_range (p : List Byte) : KeepsCmd ValuesInRange (cmdRestart p) := by
  intro s h
  have ht := takeOwedReset_keeps_range s h
  have hstart : ValuesInRange (startWindDown (takeOwedReset s)) :=
    enterState_keeps_range .windDown (closeWindow { takeOwedReset s with ctl := _ }) ht
  unfold cmdRestart
  split
  · exact keeps_ite ht (hstart.of_stored (stored_endWindDown _))
  · exact h

theorem dryOn_keeps_range (p : List Byte) : KeepsCmd ValuesInRange (cmdDryOn p) := by
  intro s h
  have ht := takeOwedReset_keeps_range s h
  unfold cmdDryOn
  split
  · exact keeps_ite (ht.of_stored (stored_of_frame (dryOn_eq _) rfl)) ht
  · exact h

/-! ### Settings (R171) -/

/-- A SET stores a value of its range, if the range is not empty (R171). -/
theorem setNumeric_keeps_range {s : State} {id chute : Byte} {allowed : State → Bool} {lo hi value : Nat}
    {store : Nat → State → State} (h : ValuesInRange s) (hrange : lo ≤ hi)
    (hstore : ∀ v, lo ≤ v → v ≤ hi → ValuesInRange (store v s)) :
    ValuesInRange (setNumeric id chute allowed lo hi store value s).1 := by
  obtain ⟨hlo, hhi⟩ := clampNat_mem hrange value
  exact keeps_ite (hstore _ hlo hhi) h

theorem withValue_keeps_range {s : State} {f : Byte → Nat → State → State × Answer} (h : ValuesInRange s)
    (hf : ∀ c v, ValuesInRange (f c v s).1) (rest : List Byte) : ValuesInRange (withValue f rest s).1 := by
  unfold withValue
  split
  · exact hf _ _
  · exact h

/-- The SET of a setting without a chute: with a value of its range the settings stay in theirs. -/
theorem setSetting_keeps_range {s : State} {id : Byte} {allowed : State → Bool} {lo hi : Nat}
    {f : Nat → Settings → Settings} (h : ValuesInRange s) (hrange : lo ≤ hi)
    (hf : s.settings.InRange → ∀ v, lo ≤ v → v ≤ hi → (f v s.settings).InRange) (rest : List Byte) :
    ValuesInRange (withValue (fun _ => setNumeric id 0 allowed lo hi fun v => updateSettings (f v)) rest s).1 := by
  refine withValue_keeps_range h (fun _ _ => ?_) rest
  exact setNumeric_keeps_range h hrange fun v hlo hhi => ⟨hf h.1 v hlo hhi, h.2⟩

theorem setLinePeriod_keeps_range (p : List Byte) : KeepsCmd ValuesInRange (cmdSetLinePeriod p) := by
  intro s h
  obtain ⟨hsettings, -, hnozzles⟩ := id h
  refine withValue_keeps_range h (fun _ _ => ?_) p
  exact setNumeric_keeps_range h (by decide) fun v hlo hhi => ⟨hsettings, ⟨hlo, hhi⟩, hnozzles⟩

/-- WIDTH MIN stays below WIDTH MAX (R171). -/
theorem setWidthMin_keeps_range (p : List Byte) : KeepsCmd ValuesInRange (cmdSetWidthMin p) := by
  intro s h
  have hmin := h.1.widthMin
  have hmax := h.1.min_le_max
  refine setSetting_keeps_range h (by omega) (fun hs v hlo hhi => ?_) p
  exact { hs with widthMin := ⟨hlo, hhi.trans (min_le_left _ _)⟩, min_le_max := hhi.trans (min_le_right _ _) }

/-- WIDTH MAX stays between WIDTH MIN and WIDTH CAP (R171). -/
theorem setWidthMax_keeps_range (p : List Byte) : KeepsCmd ValuesInRange (cmdSetWidthMax p) := by
  intro s h
  have hmin := h.1.widthMin
  have hmax := h.1.min_le_max
  have hcap := h.1.max_le_cap
  refine setSetting_keeps_range h (by omega) (fun hs v hlo hhi => ?_) p
  exact { hs with
    min_le_max := hlo
    max_le_cap := hhi.trans (min_le_right _ _)
    widthMax := hhi.trans (min_le_left _ _) }

/-- WIDTH CAP stays above WIDTH MAX (R171). -/
theorem setWidthCap_keeps_range (p : List Byte) : KeepsCmd ValuesInRange (cmdSetWidthCap p) := by
  intro s h
  have hmax := h.1.widthMax
  refine setSetting_keeps_range h (by omega) (fun hs v hlo hhi => ?_) p
  exact { hs with
    max_le_cap := (le_max_right _ _).trans hlo
    widthCap := ⟨(le_max_left _ _).trans hlo, hhi⟩ }

theorem setValveGap_keeps_range (p : List Byte) : KeepsCmd ValuesInRange (cmdSetValveGap p) := by
  intro s h
  obtain ⟨hsettings, hothers⟩ := id h
  refine withValue_keeps_range h (fun c v => ?_) p
  split
  · exact h
  · rename_i k _
    refine setNumeric_keeps_range h (by decide) fun gap hlo hhi => ⟨{ hsettings with valveGap := fun k' => ?_ }, hothers⟩
    by_cases hk : k' = k
    · subst hk
      exact (PerChute.get_set_same s.settings.valveGap k' gap).symm ▸ ⟨hlo, hhi⟩
    · exact (PerChute.get_set_other s.settings.valveGap k k' gap hk).symm ▸ hsettings.valveGap k'

/-- A group address is 0 or 33 to 62, anything else is refused (R165, R171). -/
theorem setGroupAddress_keeps_range (p : List Byte) : KeepsCmd ValuesInRange (cmdSetGroupAddress p) := by
  intro s h
  obtain ⟨hsettings, hothers⟩ := id h
  refine withValue_keeps_range h (fun _ v => ?_) p
  split
  · rename_i hv
    refine ⟨{ hsettings with group := ?_ }, hothers⟩
    simp only [groupOk, Bool.or_eq_true, beq_iff_eq, Bool.and_eq_true, decide_eq_true_eq] at hv
    obtain rfl | ⟨hlo, hhi⟩ := hv
    · exact .inl rfl
    · right
      show 33 ≤ (BitVec.ofNat 8 v).toNat ∧ (BitVec.ofNat 8 v).toNat ≤ 62
      rw [toNat_byte (by omega)]
      exact ⟨hlo, hhi⟩
  · exact h

/-- The NOTICE MASK is the one setting that has no range (R171). -/
theorem setNoticeMask_keeps_range (p : List Byte) : KeepsCmd ValuesInRange (cmdSetNoticeMask p) := by
  intro s h
  obtain ⟨hsettings, hothers⟩ := id h
  exact withValue_keeps_range h (fun _ _ => ⟨{ hsettings with }, hothers⟩) p

/-- Every command keeps the values in range. -/
theorem commands_keep_range : CommandsKeep ValuesInRange where
  poll p s h := by
    unfold cmdPoll
    split
    · exact keeps_ite h h
    · exact h
  notices p s h := by
    unfold cmdNotices
    split <;> exact h
  rearm p s h := by
    unfold cmdRearm
    split <;> exact h
  goRun := goRun_keeps_range
  goStandby := goStandby_keeps_range
  purge := purge_keeps_range
  restart := restart_keeps_range
  clearCold p s h := by
    unfold cmdClearCold
    split
    · exact takeOwedReset_keeps_range s h
    · exact h
  dryOn := dryOn_keeps_range
  dryOff p s h := by
    have ht := takeOwedReset_keeps_range s h
    unfold cmdDryOff
    split
    · exact keeps_ite ht ht
    · exact h
  window p s h := by
    unfold cmdWindow
    split
    · split
      · exact h
      · exact keeps_ite h <| keeps_ite h <| keeps_ite h <| h.of_stored (stored_of_frame (openWindow_eq _ s) rfl)
    · exact h
  put p s h := by
    unfold cmdPut
    refine keeps_ite h ?_
    split
    · exact h
    · refine keeps_ite h ?_
      split
      · exact h
      · exact h.of_stored (stored_of_frame (putEntry_eq _ _ s) rfl)
  get p s h := by
    unfold cmdGet
    split
    · split
      · exact h
      · exact keeps_ite h h
    · exact h
  requestSwap _ _ h := keeps_ite h <| keeps_ite h <| keeps_ite h h
  swapCancel p s h := by
    unfold cmdSwapCancel
    split
    · exact keeps_ite h h
    · exact h
  nozzleRead p s h := by
    unfold cmdNozzleRead
    split
    · exact keeps_ite h h
    · exact h
  nozzleWrite := nozzleWrite_keeps_range
  test p s h := by
    have hoffer : ∀ g c e, ValuesInRange (offer g c e 0 .test (closeWindow s)).1 := fun g c e =>
      h.of_stored (stored_of_frame (offer_frame _ g c e 0 .test) rfl)
    unfold cmdTest
    split
    · exact keeps_ite h <| keeps_ite h <| keeps_ite h <| keeps_ite h <| hoffer _ _ _
    · exact h
  lane p s h := by
    unfold cmdLane
    split
    · split <;> exact h
    · exact h
  query p s h := by
    unfold cmdQuery
    split
    · split <;> exact h
    · exact h
  tally p s h := by
    have hclear : ∀ (clear : Byte) n, ValuesInRange (closeWindow (if clear = 1 then clearTally n s else s)) :=
      fun clear n => by
        split
        · cases n <;> exact h
        · exact h
    unfold cmdTally
    split
    · refine keeps_ite h ?_
      split
      · exact h
      · exact hclear _ _
    · exact h
  setAirTrim p _ h := setSetting_keeps_range h (by decide) (fun hs _ _ hhi => { hs with airTrim := hhi }) p
  setLinePeriod := setLinePeriod_keeps_range
  setMaxAge p _ h := setSetting_keeps_range h (by decide) (fun hs _ hlo hhi => { hs with maxAge := ⟨hlo, hhi⟩ }) p
  setLeadMin p _ h := setSetting_keeps_range h (by decide) (fun hs _ hlo hhi => { hs with leadMin := ⟨hlo, hhi⟩ }) p
  setWidthMin := setWidthMin_keeps_range
  setWidthMax := setWidthMax_keeps_range
  setWidthCap := setWidthCap_keeps_range
  setValveGap := setValveGap_keeps_range
  setReplyWait p _ h := setSetting_keeps_range h (by decide) (fun hs _ _ hhi => { hs with replyWait := hhi }) p
  setMissLimit p _ h :=
    setSetting_keeps_range h (by decide) (fun hs _ hlo hhi => { hs with missLimit := ⟨hlo, hhi⟩ }) p
  setWindDownLimit p _ h :=
    setSetting_keeps_range h (by decide) (fun hs _ hlo hhi => { hs with windDownLimit := ⟨hlo, hhi⟩ }) p
  setGroupAddress := setGroupAddress_keeps_range
  setNoticeMask := setNoticeMask_keeps_range

/-- Settles O54: a value that has a range is written by a SET, which clamps it or refuses, by a NOZZLE WRITE, which does
the same, by a result, whose counts stay at their tops, and by the cold reset; every other event leaves them alone. -/
theorem stepKeepsSettingsAndNozzlesInRange : Obligations.StepKeepsSettingsAndNozzlesInRange := fun s t hs hn h =>
  (valuesInRange_iff t).1 <| step_keeps (fun _ _ h => h) (fun _ h => h)
    (exec_keeps linkBlind_range commands_keep_range events_keep_range) ((valuesInRange_iff s).2 ⟨hs, hn⟩) h

end Sys2Proof.Machine
end

section
/-! GO RUN, RESTART and CLEAR COLD (O42): R30, R149, R150, R158, R159. -/

namespace Sys2Proof.Machine

section
variable {s : State} {addr : Byte}

/-! ### GO RUN -/

theorem loadedFlags_all_iff (f : LoadedFlags) : f.all = true ↔ f = ⟨true, true, true, true⟩ := by
  obtain ⟨columnMap, chute, cls, pulse⟩ := f
  simp [LoadedFlags.all, and_assoc]

/-- GO RUN goes by its checks in their order (R150). -/
theorem cmdGoRun_eq (hdue : s.ctl.resetDue = false) : cmdGoRun [] s =
    if s.ctl.op ≠ .standby ∨ s.ctl.estop = true ∨ s.clk.pendingRestart = true then refuse .notNow s
    else if s.ctl.cold = true then refuse .cold s
    else if (s.banks.data s.banks.working).loaded ≠ ⟨true, true, true, true⟩ then refuse .notLoaded s
    else takeDone (enterState .run (closeWindow s)) := by
  have hload : (!(s.banks.data s.banks.working).loaded.all) = true ↔
      (s.banks.data s.banks.working).loaded ≠ ⟨true, true, true, true⟩ := by
    rw [Bool.not_eq_true', ← Bool.not_eq_true, loadedFlags_all_iff]
  simp only [cmdGoRun, takeOwedReset_of_not_due s hdue, hload, ite_or]

theorem exec_goRun (h : Heard s addr) : exec (.goRun addr []) s = .next
    (if s.ctl.op ≠ .standby ∨ s.ctl.estop = true ∨ s.clk.pendingRestart = true then replied 0x04 .notNow [] s
    else if s.ctl.cold = true then replied 0x04 .cold [] s
    else if (s.banks.data s.banks.working).loaded ≠ ⟨true, true, true, true⟩ then replied 0x04 .notLoaded [] s
    else replied 0x04 .done [] (enterState .run (closeWindow s))) := by
  obtain ⟨-, hdue, -⟩ := id h
  refine (hostCommand_heard s 0x04 false (cmdGoRun []) h (by simp)).trans (congrArg _ ?_)
  rw [cmdGoRun_eq hdue]
  split_ifs <;> rfl

/-! ### RESTART -/

/-- A wind-down begins with its record, and a purge is discarded (R158). -/
theorem startWindDown_eq (s : State) : startWindDown s = { s with
    ctl := { s.ctl with
      op := .windDown
      purge := none
      windDown := some ⟨.draining, s.clk.now + BitVec.ofNat 32 (1000 * s.settings.windDownLimit)⟩ }
    link := { s.link with window := none } } := by
  unfold startWindDown
  rw [enterState_closeWindow, Nat.mul_comm]
  rfl

theorem exec_restart (h : Heard s addr) : exec (.restart addr []) s = .next
    (if s.ctl.op = .windDown then replied 0x07 .notNow [] s
    else replied 0x07 .done [] (endWindDown (startWindDown s))) := by
  obtain ⟨-, hdue, -⟩ := id h
  refine (hostCommand_heard s 0x07 false (cmdRestart []) h (by simp)).trans (congrArg _ ?_)
  simp only [cmdRestart, takeOwedReset_of_not_due s hdue]
  split <;> rfl

/-! ### CLEAR COLD -/

theorem exec_clearCold (h : Heard s addr) : exec (.clearCold addr []) s = .next
    (replied 0x08 .done [] (closeWindow { s with ctl := { s.ctl with cold := false } })) := by
  obtain ⟨-, hdue, -⟩ := id h
  refine (hostCommand_heard s 0x08 false (cmdClearCold []) h (by simp)).trans (congrArg _ ?_)
  simp only [cmdClearCold, takeOwedReset_of_not_due s hdue]
  rfl

end

/-- Settles O42: each command that is heard by its own equation. -/
theorem goRunRestartAndClearCold : Obligations.GoRunRestartAndClearCold := by
  intro s addr h
  refine ⟨?_, ?_, exec_clearCold h⟩
  · rw [exec_goRun h, enterState_closeWindow]
  · rw [exec_restart h, startWindDown_eq]

end Sys2Proof.Machine
end

section
/-! The turns and the completion of a purge (O30): R30, R154, R155. -/

namespace Sys2Proof.Machine

section
variable {s : State} {p : Purge}

/-! ### The turns -/

theorem exec_purgeTurn (hs : Awake s) : exec .purgeTurn s = .next (purgeTurn s) := live_awake s hs

theorem purgeTurn_of_none (hp : s.ctl.purge = none) : purgeTurn s = s := by
  rw [purgeTurn, hp]

/-- A turn is made when its time has come and generation has not ended (R154). -/
theorem purgeTurn_of_some (hp : s.ctl.purge = some p) :
    purgeTurn s = if p.ended = false ∧ due p.nextTime s.clk.now = true then makeTurn p s else s := by
  simp only [purgeTurn, hp, Bool.and_eq_true, Bool.not_eq_true']

/-- A turn schedules the next, or ends the generation (R154). -/
theorem advance_eq (p : Purge) : p.advance = { p with
    nextTurn := p.nextTurn + 1
    nextTime := p.nextTime + BitVec.ofNat 32 p.spacing
    ended := decide (p.nextTurn + 1 = p.turns) } := rfl

/-- One chute's offer: a nozzle in service is offered its firing, and the entry that stands for it enters the set
(R154). -/
theorem purgeOffer_eq (s : State) (width n : Nat) (h : Chute) :
    let g := h.val * 40 + n
    let start := s.clk.now + BitVec.ofNat 32 s.settings.leadMin
    purgeOffer width n h s =
      if (s.nozzle g).state = .inService then
        match offer g start (start + BitVec.ofNat 32 width) 0 .purge s with
        | (t, .created i) => addToPurge g i t
        | (t, .merged i) => addToPurge g i t
        | (t, _) => t
      else s := by
  simp only [purgeOffer, State.inService, beq_iff_eq]
  rfl

theorem addToPurge_of_some (g i : Nat) (hp : s.ctl.purge = some p) : addToPurge g i s = { s with
    ctl := { s.ctl with purge := some { p with set := if (g, i) ∈ p.set then p.set else p.set ++ [(g, i)] } } } := by
  simp only [addToPurge, hp, Option.map_some, List.contains_iff_mem]
  split <;> rfl

/-! ### The completion -/

theorem exec_purgeComplete (hs : Awake s) : exec .purgeComplete s = .next (concludePurge s) := live_awake s hs

theorem concludePurge_of_none (hp : s.ctl.purge = none) : concludePurge s = s := by
  rw [concludePurge, hp]

theorem stillQueued_iff (s : State) (x : Nat × Nat) : stillQueued s x = true ↔ ∃ e ∈ s.queue x.1, e.ident = x.2 := by
  simp [stillQueued]

/-- The members of the purge set that are still in their queues. -/
theorem filter_stillQueued (s : State) (set : List (Nat × Nat)) :
    set.filter (stillQueued s) = set.filter fun x : Nat × Nat => decide (∃ e ∈ s.queue x.1, e.ident = x.2) :=
  List.filter_congr fun x _ => by rw [Bool.eq_iff_iff, stillQueued_iff, decide_eq_true_iff]

/-- A purge ends once generation has ended and its set has left the queues (R155). -/
theorem concludePurge_of_over (hp : s.ctl.purge = some p) (he : p.ended = true)
    (hgone : ∀ x ∈ p.set, ∀ e ∈ s.queue x.1, e.ident ≠ x.2) : concludePurge s = completePurge s := by
  have hset : p.set.filter (stillQueued s) = [] := by
    rw [List.filter_eq_nil_iff]
    intro x hx hq
    obtain ⟨e, hmem, hid⟩ := (stillQueued_iff s x).1 hq
    exact hgone x hx e hmem hid
  simp only [concludePurge, hp, he, hset, List.isEmpty_nil, Bool.and_self, if_true]

/-- Before that its set loses what has left the queues (R155). -/
theorem concludePurge_of_going_on (hp : s.ctl.purge = some p)
    (h : p.ended = false ∨ ∃ x ∈ p.set, ∃ e ∈ s.queue x.1, e.ident = x.2) :
    concludePurge s = { s with ctl := { s.ctl with purge := some { p with set := p.set.filter (stillQueued s) } } } := by
  have hon : (p.ended && (p.set.filter (stillQueued s)).isEmpty) = false := by
    obtain he | ⟨x, hx, hq⟩ := h
    · rw [he, Bool.false_and]
    · rw [Bool.and_eq_false_iff, List.isEmpty_eq_false_iff]
      exact .inr (List.ne_nil_of_mem (List.mem_filter.2 ⟨hx, (stillQueued_iff s x).2 hq⟩))
  simp only [concludePurge, hp, hon, Bool.false_eq_true, if_false]

/-- The completion leaves PURGE for STANDBY, with which the window is closed (R30, R155). -/
theorem completePurge_of_purge (ho : s.ctl.op = .purge) : completePurge s = { s with
    ctl := { s.ctl with op := .standby, purge := none }
    link := { s.link with window := none }
    notices := s.notices.set s.settings.noticeMask .purgeDone none } := by
  simp [completePurge, enterState_eq, setNotice, ho]

end

/-- Settles O30: the turn by its time, its offers chute by chute, and the completion by what is left of the set. -/
theorem purgeTurnsAndCompletes : Obligations.PurgeTurnsAndCompletes := by
  refine ⟨fun s hs => ⟨fun hp => ?_, fun p hp => ⟨?_, fun he ho hgone => ?_, fun hon => ?_⟩⟩, fun s p => ?_,
    purgeOffer_eq, fun s p g i => addToPurge_of_some g i⟩
  · rw [exec_purgeTurn hs, exec_purgeComplete hs, purgeTurn_of_none hp, concludePurge_of_none hp]
    exact ⟨rfl, rfl⟩
  · rw [exec_purgeTurn hs, purgeTurn_of_some hp]
  · rw [exec_purgeComplete hs, concludePurge_of_over hp he hgone, completePurge_of_purge ho]
  · rw [exec_purgeComplete hs, concludePurge_of_going_on hp hon, filter_stillQueued]
  · simp only [makeTurn, Config.nozzlesPerChute, ← advance_eq]

end Sys2Proof.Machine
end

section
/-! The cold reset (O2) and the state it ends in (O60): R6, R25, R26, R96, R112 to R114, R123, R124, R132, R148, R165,
R174, R176, R181. -/

namespace Sys2Proof.Machine

/-! ### The notices of the inputs -/

/-- The notice table when the cold reset has ended, by the levels of ESTOP and AIRLOW (R96, R148, R174). -/
def coldNotices (estop airlow : Bool) : NoticeTable :=
  let n := if estop then NoticeTable.cleared.set 0 .estop none else .cleared
  if airlow then n.set 0 .airLow none else n

/-- The records where a kind that concerns no chute is set in one case and not in the other (R174). -/
theorem record_set_if (n : NoticeTable) (mask : BitVec 11) (b : Bool) (k k' : NoticeKind) :
    (if b then n.set mask k none else n).record k' =
      if k' = k ∧ b = true then ⟨true, min ((n.record k).count + 1) 255, (n.record k).mask⟩ else n.record k' := by
  cases b with
  | false => simp
  | true =>
    by_cases hk : k' = k
    · subst k'
      simp [record_set_same, chuteMask]
    · simp [record_set_other n mask none hk, hk]

/-- ESTOP is pending once where it is asserted, AIR LOW likewise, and every other notice is clear (R96, R148). -/
theorem coldNotices_record (estop airlow : Bool) (k : NoticeKind) : (coldNotices estop airlow).record k =
    if (k = .estop ∧ estop = true) ∨ (k = .airLow ∧ airlow = true) then ⟨true, 1, 0⟩ else ⟨false, 0, 0⟩ := by
  have hclear : ∀ k, NoticeTable.cleared.record k = ⟨false, 0, 0⟩ := fun _ => rfl
  simp [coldNotices, record_set_if, hclear, ← ite_or, or_comm]

theorem coldNotices_armed (estop airlow : Bool) : (coldNotices estop airlow).armed = true := by
  unfold coldNotices
  cases estop <;> cases airlow <;> rfl

/-- With no kind masked, ATTN is pulled for either input (R176). -/
theorem coldNotices_attn (estop airlow : Bool) : (coldNotices estop airlow).attn = (estop || airlow) := by
  unfold coldNotices
  cases estop <;> cases airlow <;> rfl

/-! ### The end of the reset -/

/-- A part that was held in reset is in the reset state when the reset ends, but for its straps and level inputs (R148,
R165). -/
theorem coldResetEnd_heldInReset (straps : BitVec 5) (estop airlow : Bool) (s : State) :
    coldResetEnd straps estop airlow (heldInReset s) = { State.reset with
      pending := s.pending
      ctl := { State.reset.ctl with op := if estop then .halt else .standby, estop := estop, airlow := airlow }
      link := { State.reset.link with address := strapAddress straps }
      notices := coldNotices estop airlow } := by
  unfold coldResetEnd
  simp only
  rw [grantAll_of_closeAll _ fun h => by simp [State.busOf, requestCloseAll]]
  cases estop <;> cases airlow <;> rfl

theorem exec_coldResetEnd_heldInReset (straps : BitVec 5) (estop airlow : Bool) (s : State) :
    exec (.coldResetEnd straps estop airlow) (heldInReset s)
      = .next (coldResetEnd straps estop airlow (heldInReset s)) := rfl

/-- Settles O2: the reset's end by its own equation, the notices by the inputs that set them. -/
theorem coldResetGivesTheResetState : Obligations.ColdResetGivesTheResetState := by
  intro s
  refine ⟨heldInReset s, rfl, rfl, fun straps estop airlow => ?_, ?_⟩
  · refine ⟨_, exec_coldResetEnd_heldInReset straps estop airlow s, ?_⟩
    rw [coldResetEnd_heldInReset]
    exact ⟨rfl, rfl, rfl, rfl, coldNotices_record estop airlow, coldNotices_armed estop airlow,
      coldNotices_attn estop airlow, rfl⟩
  · rw [exec_coldResetEnd_heldInReset, coldResetEnd_heldInReset]
    rfl

/-! ### The reset state -/

/-- The reset state is where a cold reset ends with the three inputs at 0. -/
theorem reset_eq_coldResetEnd : State.reset = coldResetEnd 0 false false (heldInReset State.reset) := by
  rw [coldResetEnd_heldInReset]
  rfl

theorem reset_valuesInRange : ValuesInRange State.reset := by
  rw [reset_eq_coldResetEnd]
  exact coldResetEnd_keeps_range 0 false false _ (heldInReset_inRange State.reset)

/-- With nothing counted and nothing pending each record balances (R181, R183). -/
theorem reset_talliesBalance : TalliesBalance State.reset := ⟨⟨nofun, nofun, nofun⟩, fun _ _ _ _ => rfl⟩

theorem reset_workFits : WorkFitsState State.reset := by
  rw [reset_eq_coldResetEnd]
  have hw := coldResetEnd_fits 0 false false rfl (heldInReset_fits State.reset)
  exact (workFitsState_iff_of_awake hw.sound.awake).2 hw

/-- Settles O60: with no entry, no sighting and no count there is nothing to bound or to balance, and the end of the cold
reset keeps the ranges and the work of the part that was held in it. -/
theorem resetMeetsTheInvariants : Obligations.ResetMeetsTheInvariants := by
  obtain ⟨hsettings, hnozzles⟩ := (valuesInRange_iff _).1 reset_valuesInRange
  exact ⟨rfl, ⟨rfl, rfl, rfl, rfl, rfl, rfl⟩, hsettings, hnozzles, .of_empty rfl rfl rfl, reset_talliesBalance,
    firingsAccounted_of_empty rfl rfl rfl, .of_empty rfl, reset_workFits⟩

end Sys2Proof.Machine
end

section
/-! What a part does while no command waits (O3): the events that are due, the first of them or a tick, and nothing while
RSTN is held low: R1, R2, R4, R86, R97, R103, R115, R119, R148, R154, R160, R170. -/

namespace Sys2Proof.Machine

variable {s : State}

/-! ### When an event is due -/

theorem mem_whenever {b : Bool} {i c : Instr} : c ∈ whenever b i ↔ b = true ∧ c = i := by
  cases b <;> simp [whenever]

theorem limitDue_iff (s : State) : limitDue s = true ↔
    ∃ w, s.ctl.windDown = some w ∧ w.phase = .draining ∧ due w.expiry s.clk.now = true := by
  unfold limitDue
  cases s.ctl.windDown <;> simp

theorem pulseOver_iff (s : State) : pulseOver s = true ↔
    ∃ rise stop, (s.clk.lsync = .high stop ∨ s.clk.lsync = .cut rise stop) ∧ due stop s.clk.now = true := by
  unfold pulseOver
  cases s.clk.lsync <;> simp

theorem turnDue_iff (s : State) : turnDue s = true ↔
    ∃ p, s.ctl.purge = some p ∧ p.ended = false ∧ due p.nextTime s.clk.now = true := by
  unfold turnDue
  cases s.ctl.purge <;> simp

theorem waitOver_iff (s : State) (h : Chute) : waitOver s h = true ↔
    ∃ t stop, (s.busOf h).inFlight = some t ∧ t.waitEnd = some stop ∧ due stop s.clk.now = true := by
  unfold waitOver
  cases (s.busOf h).inFlight with
  | none => simp
  | some t => cases ht : t.waitEnd <;> simp [ht]

theorem canGrant_iff (s : State) (h : Chute) : canGrant s h = true ↔
    (s.busOf h).inFlight = none ∧ ((s.busOf h).closeAll = true ∨ (s.busOf h).requests ≠ []) := by
  simp [canGrant]

theorem turnaroundOver_iff (s : State) : turnaroundOver s = true ↔
    ∃ reply since, s.link.tx = .turnaround reply since ∧ 200 ≤ (s.clk.now - since).toNat := by
  unfold turnaroundOver
  cases s.link.tx with
  | idle | sending r => simp
  | turnaround r since =>
    rw [decide_eq_true_iff]
    simp [Config.turnaroundMax, spanOf, -BitVec.toNat_sub]

/-- A nozzle with an entry in its queue is listed. -/
theorem listed_of_mem {g : Nat} {e : Entry} (h : e ∈ s.queue g) : g ∈ listedNozzles s :=
  List.mem_map_of_mem (Tab.mem_of_get_ne (List.ne_nil_of_mem h))

theorem endingEntry_isSome {g : Nat} : g ∈ listedNozzles s ∧ (endingEntry s g).isSome = true ↔
    ∃ e ∈ s.queue g, e.phase = .opened ∧ due e.stop s.clk.now = true := by
  simp only [endingEntry, List.find?_isSome, Bool.and_eq_true, beq_iff_eq, and_iff_right_iff_imp]
  exact fun ⟨_, he, _⟩ => listed_of_mem he

theorem startingEntry_isSome {g : Nat} : g ∈ listedNozzles s ∧ (startingEntry s g).isSome = true ↔
    ∃ e ∈ s.queue g, e.phase = .waiting ∧ due e.start s.clk.now = true := by
  simp only [startingEntry, List.find?_isSome, Bool.and_eq_true, beq_iff_eq, and_iff_right_iff_imp]
  exact fun ⟨_, he, _⟩ => listed_of_mem he

theorem mem_chutes (h : Chute) : h ∈ chutes := by
  revert h
  decide

/-- The listed events are those that are due. -/
theorem mem_dueEvents (s : State) (c : Instr) : c ∈ dueEvents s ↔ DueNow s c := by
  simp only [dueEvents, List.mem_append, mem_whenever, List.mem_map, List.mem_filter, endingEntry_isSome,
    startingEntry_isSome, mem_chutes, true_and, warmResetReady_iff, limitDue_iff, pulseOver_iff, turnDue_iff,
    waitOver_iff, canGrant_iff, turnaroundOver_iff]
  cases c with
  | deadlineExpiry h tag => simp [DueNow, and_assoc, and_comm, and_left_comm]
  | _ => simp [DueNow]

/-! ### On an empty queue -/

theorem step_of_empty (h : s.pending = []) : step s = idle s := by
  rw [step, h]

theorem idle_of_held (h : s.ctl.rstn = true) : idle s = .next s := by
  simp [idle, idleEvent, idleTick, h]

theorem idle_of_due {c : Instr} {others : List Instr} (hs : Awake s) (h : dueEvents s = c :: others) :
    idle s = exec c s := by
  simp [idle, idleEvent, show s.ctl.rstn = false from hs, h]

theorem idle_of_none_due (hs : Awake s) (h : dueEvents s = []) : idle s = .next (tick s) := by
  simp [idle, idleEvent, idleTick, show s.ctl.rstn = false from hs, h]

/-! ### While RSTN is held low -/

/-- Nothing but the resets by RSTN reaches a part that is held in reset (R148). -/
theorem exec_of_held (h : s.ctl.rstn = true) {c : Instr} (hlow : c ≠ .rstnLow)
    (hend : ∀ straps estop airlow, c ≠ .coldResetEnd straps estop airlow) : exec c s = .next s := by
  obtain ⟨f, hf, -⟩ := exec_keeps_work c hlow hend
  rw [hf]
  exact live_held s h

theorem exec_coldResetEnd_of_awake (hs : Awake s) (straps : BitVec 5) (estop airlow : Bool) :
    exec (.coldResetEnd straps estop airlow) s = .next s :=
  congrArg _ (if_neg (by simp [show s.ctl.rstn = false from hs]))

/-- Settles O3: every event but the resets by RSTN has its effect on an awake part alone, and the idle step takes the
first of the events that are due. -/
theorem nothingReachesAPartInReset : Obligations.NothingReachesAPartInReset := fun s =>
  ⟨fun hheld _ hlow hend => exec_of_held hheld hlow hend, exec_coldResetEnd_of_awake,
    fun hempty => step_of_empty hempty ▸
      ⟨idle_of_held, fun hs => ⟨fun _ _ => idle_of_due hs, idle_of_none_due hs⟩⟩,
    mem_dueEvents s⟩

end Sys2Proof.Machine
end

section
/-! ATTN and the transmitter of the control link (O37, O52): R165, R170, R176. Where a property is about the transmitter,
the notice table and the NOTICE MASK alone, these operations leave it alone, and every command keeps it if the operations
on notices and the warm reset do. -/

namespace Sys2Proof.Machine

/-- The transmitter, and what ATTN is judged by: the notice table and the NOTICE MASK (R170, R176). -/
def State.signals (s : State) : Transmitter × NoticeTable × BitVec 11 :=
  (s.link.tx, s.notices, s.settings.noticeMask)

/-- A property of the signals alone that the operations on notices and the warm reset keep. -/
structure OfSignals (P : State → Prop) : Prop where
  of_same : ∀ {s t : State}, P s → t.signals = s.signals → P t
  setNotice : ∀ k c, Keeps P (setNotice k c)
  warmReset : Keeps P warmReset
  disarm : Keeps P disarm
  clearNotices : Keeps P clearNotices
  rearm : Keeps P rearm
  storeMask : ∀ mask, Keeps P (storeMask mask)

/-! ### What leaves the signals alone -/

section
variable (s : State)

/-- A frame that gives the signals back leaves them alone. -/
theorem signals_of_frame {s t u : State} (h : t = u) (hu : u.signals = s.signals) : t.signals = s.signals := by
  rw [h, hu]

theorem signals_withCtl (c : Controller) : ({ s with ctl := c } : State).signals = s.signals := rfl

@[simp] theorem signals_enterState (op : OpState) : (enterState op s).signals = s.signals :=
  signals_of_frame (enterState_eq s op) rfl

@[simp] theorem signals_concludeDry : (concludeDry s).signals = s.signals := signals_of_frame (concludeDry_eq s) rfl

@[simp] theorem signals_grantNext (h : Chute) : (grantNext h s).signals = s.signals :=
  signals_of_frame (grantNext_frame s h) rfl

@[simp] theorem signals_grantAll : (grantAll s).signals = s.signals := signals_of_frame (grantAll_frame s) rfl

@[simp] theorem signals_purgeOffer (width n : Nat) (h : Chute) : (purgeOffer width n h s).signals = s.signals :=
  signals_of_frame (purgeOffer_frame s width n h) rfl

end

/-! ### Conclusions and resets -/

section
variable {P : State → Prop} (hP : OfSignals P)
include hP

theorem OfSignals.enterState (op : OpState) : Keeps P (enterState op) := fun s h =>
  hP.of_same h (signals_enterState s op)

theorem OfSignals.concludeDry : Keeps P concludeDry := fun s h => hP.of_same h (signals_concludeDry s)

/-- A purge that completes sets its notice (R155). -/
theorem OfSignals.concludePurge : Keeps P concludePurge := by
  intro s h
  unfold Machine.concludePurge
  split
  · exact h
  · dsimp only
    split
    · exact hP.setNotice _ _ _ (hP.enterState .standby { s with ctl := { s.ctl with purge := none } } (hP.of_same h rfl))
    · exact hP.of_same h rfl

theorem OfSignals.endWindDown : Keeps P endWindDown := by
  intro s h
  obtain ⟨he, -⟩ | ⟨he, -⟩ := endWindDown_cases s
  · rwa [he]
  · rw [he]
    exact hP.warmReset s h

theorem OfSignals.conclude : Keeps P conclude := fun s h =>
  hP.endWindDown _ (hP.concludePurge _ (hP.concludeDry s h))

theorem OfSignals.takeOwedReset : Keeps P takeOwedReset := by
  intro s h
  unfold Machine.takeOwedReset
  split
  · exact hP.warmReset s h
  · exact h

theorem OfSignals.makeTurn (p : Purge) : Keeps P (makeTurn p) := fun s h =>
  hP.conclude _ <| hP.of_same h <| (signals_withCtl _ _).trans <| by simp only [signals_purgeOffer]

/-! ### Commands of the state controller -/

theorem OfSignals.goRun (p : List Byte) : KeepsCmd P (cmdGoRun p) := by
  intro s h
  have ht := hP.takeOwedReset s h
  unfold cmdGoRun
  split
  · exact keeps_ite ht <| keeps_ite ht <| keeps_ite ht <| keeps_ite ht <| keeps_ite ht <|
      hP.enterState .run _ (hP.of_same ht rfl)
  · exact h

theorem OfSignals.goStandby (p : List Byte) : KeepsCmd P (cmdGoStandby p) := by
  intro s h
  have ht := hP.takeOwedReset s h
  unfold cmdGoStandby
  split
  · dsimp only
    split
    · exact hP.of_same ht rfl
    · exact hP.of_same ht (signals_of_frame (standbyFromRun_eq _) rfl)
    · exact hP.of_same ht (signals_of_frame (standbyFromPurge_eq _) rfl)
    · exact keeps_ite ht (hP.enterState .standby _ (hP.of_same ht rfl))
    · exact ht
  · exact h

theorem OfSignals.startPurge (rounds width spacing : Nat) : Keeps P (startPurge rounds width spacing) := by
  intro s h
  rw [startPurge_eq]
  exact hP.makeTurn _ _ (hP.of_same h rfl)

theorem OfSignals.purge (p : List Byte) : KeepsCmd P (cmdPurge p) := by
  intro s h
  have ht := hP.takeOwedReset s h
  unfold cmdPurge
  split
  · refine keeps_ite ht (keeps_ite ht ?_)
    dsimp only
    exact hP.startPurge _ _ _ _ ht
  · exact h

theorem OfSignals.restart (p : List Byte) : KeepsCmd P (cmdRestart p) := by
  intro s h
  have ht := hP.takeOwedReset s h
  unfold cmdRestart
  split
  · exact keeps_ite ht (hP.endWindDown _ (hP.enterState .windDown _ (hP.of_same ht rfl)))
  · exact h

theorem OfSignals.clearCold (p : List Byte) : KeepsCmd P (cmdClearCold p) := by
  intro s h
  unfold cmdClearCold
  split
  · exact hP.of_same (hP.takeOwedReset s h) rfl
  · exact h

theorem OfSignals.dryOn (p : List Byte) : KeepsCmd P (cmdDryOn p) := by
  intro s h
  have ht := hP.takeOwedReset s h
  unfold cmdDryOn
  split
  · exact keeps_ite (hP.of_same ht (signals_of_frame (dryOn_eq _) rfl)) ht
  · exact h

theorem OfSignals.dryOff (p : List Byte) : KeepsCmd P (cmdDryOff p) := by
  intro s h
  have ht := hP.takeOwedReset s h
  unfold cmdDryOff
  split
  · exact keeps_ite (hP.of_same ht rfl) ht
  · exact h

/-! ### Notices, tables, nozzles and tallies -/

theorem OfSignals.poll (p : List Byte) : KeepsCmd P (cmdPoll p) := by
  intro s h
  unfold cmdPoll
  split
  · exact keeps_ite (hP.disarm s h) h
  · exact h

theorem OfSignals.notices (p : List Byte) : KeepsCmd P (cmdNotices p) := by
  intro s h
  unfold cmdNotices
  split
  · exact hP.clearNotices _ (hP.of_same h rfl)
  · exact h

theorem OfSignals.rearmCommand (p : List Byte) : KeepsCmd P (cmdRearm p) := by
  intro s h
  unfold cmdRearm
  split
  · exact hP.rearm _ (hP.of_same h rfl)
  · exact h

theorem OfSignals.window (p : List Byte) : KeepsCmd P (cmdWindow p) := by
  intro s h
  unfold cmdWindow
  split
  · split
    · exact h
    · exact keeps_ite h <| keeps_ite h <| keeps_ite h <| hP.of_same h (signals_of_frame (openWindow_eq _ s) rfl)
  · exact h

theorem OfSignals.put (p : List Byte) : KeepsCmd P (cmdPut p) := by
  intro s h
  unfold cmdPut
  refine keeps_ite h ?_
  split
  · exact h
  · refine keeps_ite h ?_
    split
    · exact h
    · exact hP.of_same h (signals_of_frame (putEntry_eq _ _ s) rfl)

theorem OfSignals.get (p : List Byte) : KeepsCmd P (cmdGet p) := by
  intro s h
  unfold cmdGet
  split
  · split
    · exact h
    · exact keeps_ite h (hP.of_same h rfl)
  · exact h

theorem OfSignals.requestSwap (ls : Line) : KeepsCmd P (requestSwap ls) := fun _ h =>
  keeps_ite h <| keeps_ite h <| keeps_ite h <| hP.of_same h rfl

theorem OfSignals.swapCancel (p : List Byte) : KeepsCmd P (cmdSwapCancel p) := by
  intro s h
  unfold cmdSwapCancel
  split
  · exact keeps_ite h (hP.of_same h rfl)
  · exact h

theorem OfSignals.nozzleRead (p : List Byte) : KeepsCmd P (cmdNozzleRead p) := by
  intro s h
  unfold cmdNozzleRead
  split
  · exact keeps_ite (hP.of_same h rfl) h
  · exact h

theorem OfSignals.nozzleWrite (p : List Byte) : KeepsCmd P (cmdNozzleWrite p) := by
  intro s h
  have hwrite : ∀ g f, P (writeNozzle g f s) := fun g f => by
    unfold writeNozzle
    dsimp only
    split
    · exact hP.conclude _ (hP.of_same h rfl)
    · exact hP.of_same h rfl
  unfold cmdNozzleWrite
  split
  · split
    · exact h
    · exact keeps_ite h <| keeps_ite h <| keeps_ite h <| keeps_ite h <| hwrite _ _
  · exact h

theorem OfSignals.test (p : List Byte) : KeepsCmd P (cmdTest p) := by
  intro s h
  unfold cmdTest
  split
  · refine keeps_ite h <| keeps_ite h <| keeps_ite h <| keeps_ite h ?_
    exact hP.of_same h (signals_of_frame (offer_frame (closeWindow s) _ _ _ 0 .test) rfl)
  · exact h

theorem OfSignals.lane (p : List Byte) : KeepsCmd P (cmdLane p) := by
  intro s h
  unfold cmdLane
  split
  · split
    · exact hP.of_same h rfl
    · exact h
  · exact h

theorem OfSignals.query (p : List Byte) : KeepsCmd P (cmdQuery p) := by
  intro s h
  unfold cmdQuery
  split
  · split
    · exact hP.of_same h rfl
    · exact h
  · exact h

theorem OfSignals.tally (p : List Byte) : KeepsCmd P (cmdTally p) := by
  intro s h
  have hclear : ∀ (clear : Byte) n, P (closeWindow (if clear = 1 then clearTally n s else s)) := fun clear n => by
    split
    · cases n <;> exact hP.of_same h rfl
    · exact hP.of_same h rfl
  unfold cmdTally
  split
  · refine keeps_ite h ?_
    split
    · exact h
    · exact hclear _ _
  · exact h

/-! ### Settings -/

/-- A numeric SET keeps what storing its value keeps. -/
theorem OfSignals.setNumeric {id chute : Byte} {allowed : State → Bool} {lo hi : Nat} {store : Nat → State → State}
    (hstore : ∀ v s, (store v s).signals = s.signals) (v : Nat) :
    KeepsCmd P (setNumeric id chute allowed lo hi store v) := fun s h =>
  keeps_ite (hP.of_same h (hstore _ s)) h

omit hP in
theorem withValue_keeps {f : Byte → Nat → State → State × Answer} (hf : ∀ c v, KeepsCmd P (f c v)) (p : List Byte) :
    KeepsCmd P (withValue f p) := by
  intro s h
  unfold withValue
  split
  · exact hf _ _ s h
  · exact h

/-- The SET of a setting without a chute, whose range may depend on the other settings. -/
theorem OfSignals.setSetting {id : Byte} {allowed : State → Bool} {lo hi : State → Nat} {store : Nat → State → State}
    (hstore : ∀ v s, (store v s).signals = s.signals) (p : List Byte) :
    KeepsCmd P fun s => withValue (fun _ => Machine.setNumeric id 0 allowed (lo s) (hi s) store) p s := fun s h =>
  withValue_keeps (fun _ v => hP.setNumeric hstore v) p s h

theorem OfSignals.setValveGap (p : List Byte) : KeepsCmd P (cmdSetValveGap p) := by
  refine withValue_keeps (fun c v s h => ?_) p
  split
  · exact h
  · refine hP.setNumeric (fun _ _ => ?_) v s h
    rfl

theorem OfSignals.setGroupAddress (p : List Byte) : KeepsCmd P (cmdSetGroupAddress p) :=
  withValue_keeps (fun _ _ _ h => keeps_ite (hP.of_same h rfl) h) p

theorem OfSignals.setNoticeMask (p : List Byte) : KeepsCmd P (cmdSetNoticeMask p) :=
  withValue_keeps (fun _ v s h => hP.of_same (hP.storeMask (.ofNat 11 v) s h) rfl) p

/-- Every command keeps such a property. -/
theorem OfSignals.commandsKeep : CommandsKeep P where
  poll := hP.poll
  notices := hP.notices
  rearm := hP.rearmCommand
  goRun := hP.goRun
  goStandby := hP.goStandby
  purge := hP.purge
  restart := hP.restart
  clearCold := hP.clearCold
  dryOn := hP.dryOn
  dryOff := hP.dryOff
  window := hP.window
  put := hP.put
  get := hP.get
  requestSwap := hP.requestSwap
  swapCancel := hP.swapCancel
  nozzleRead := hP.nozzleRead
  nozzleWrite := hP.nozzleWrite
  test := hP.test
  lane := hP.lane
  query := hP.query
  tally := hP.tally
  setAirTrim := hP.setSetting fun _ _ => rfl
  setLinePeriod := hP.setSetting fun _ _ => rfl
  setMaxAge := hP.setSetting fun _ _ => rfl
  setLeadMin := hP.setSetting fun _ _ => rfl
  setWidthMin := hP.setSetting fun _ _ => rfl
  setWidthMax := hP.setSetting fun _ _ => rfl
  setWidthCap := hP.setSetting fun _ _ => rfl
  setValveGap := hP.setValveGap
  setReplyWait := hP.setSetting fun _ _ => rfl
  setMissLimit := hP.setSetting fun _ _ => rfl
  setWindDownLimit := hP.setSetting fun _ _ => rfl
  setGroupAddress := hP.setGroupAddress
  setNoticeMask := hP.setNoticeMask

end

end Sys2Proof.Machine
end

section
/-! Every step leaves ATTN judged (O52): R148, R161, R174, R176. An event leaves the signals alone, or the last of what it
does to them is to set a notice, which judges ATTN anew. -/

namespace Sys2Proof.Machine

/-! ### What judges ATTN -/

/-- A notice table as its last judgement by a mask left it (R176). -/
theorem attnJudged_of_judge {s : State} {n : NoticeTable} (h : s.notices = n.judge s.settings.noticeMask) :
    AttnJudged s := by
  unfold AttnJudged
  rw [h]
  rfl

theorem attnJudged_setNotice (k : NoticeKind) (c : Option Chute) (s : State) : AttnJudged (setNotice k c s) :=
  attnJudged_of_judge rfl

theorem AttnJudged.of_signals {s t : State} (h : AttnJudged s) (he : t.signals = s.signals) : AttnJudged t := by
  obtain ⟨-, hn, hm⟩ : t.link.tx = s.link.tx ∧ t.notices = s.notices ∧
      t.settings.noticeMask = s.settings.noticeMask := by simpa [State.signals] using he
  unfold AttnJudged
  rwa [hn, hm]

/-- A warm reset ends with a notice set (R161). -/
theorem attnJudged_warmReset (s : State) : AttnJudged (warmReset s) := by
  unfold warmReset
  refine AttnJudged.of_signals ?_ (signals_grantAll _)
  dsimp only
  split <;> exact attnJudged_setNotice _ _ _

theorem ofSignals_attnJudged : OfSignals AttnJudged where
  of_same := .of_signals
  setNotice k c s _ := attnJudged_setNotice k c s
  warmReset s _ := attnJudged_warmReset s
  disarm _ _ := attnJudged_of_judge rfl
  clearNotices _ _ := attnJudged_of_judge rfl
  rearm _ _ := attnJudged_of_judge rfl
  storeMask _ _ _ := attnJudged_of_judge rfl

/-- What leaves the signals alone leaves ATTN judged. -/
theorem keeps_attn_of_signals {f : State → State} (hf : ∀ s, (f s).signals = s.signals) : Keeps AttnJudged f :=
  fun s h => h.of_signals (hf s)

/-- Whichever state a choice takes. -/
theorem attnJudged_ite {c : Prop} [Decidable c] {s t : State} (hs : AttnJudged s) (ht : AttnJudged t) :
    AttnJudged (if c then s else t) := by
  split
  · exact hs
  · exact ht

/-! ### Resets, inputs and giving up work -/

theorem coldResetEnd_keeps_attn (straps : BitVec 5) (estop airlow : Bool) :
    Keeps AttnJudged (coldResetEnd straps estop airlow) := by
  intro s h
  have hstart : AttnJudged (grantAll (requestCloseAll { s with
      ctl := { s.ctl with rstn := false }
      clk := LineClock.restarted coldPeriod
      link := { s.link with address := strapAddress straps } })) :=
    AttnJudged.of_signals (s := s) h (signals_grantAll _)
  exact attnJudged_ite (attnJudged_setNotice _ _ _) (attnJudged_ite (attnJudged_setNotice _ _ _) hstart)

theorem estopAssertion_keeps_attn : Keeps AttnJudged estopAssertion := fun _ h =>
  attnJudged_ite h (attnJudged_setNotice _ _ _)

theorem airlowAssertion_keeps_attn : Keeps AttnJudged airlowAssertion := fun _ h =>
  attnJudged_ite h (attnJudged_setNotice _ _ _)

theorem windDownLimitExpiry_keeps_attn : Keeps AttnJudged windDownLimitExpiry := by
  intro s h
  have hexpiry : ∀ w, AttnJudged (windDownExpiry w s) := fun w => by
    rw [windDownExpiry_eq, windDownReduced_eq]
    exact ofSignals_attnJudged.conclude _ (AttnJudged.of_signals (s := s) h (signals_grantAll _))
  unfold windDownLimitExpiry
  split
  · exact attnJudged_ite (hexpiry _) h
  · exact h

theorem purgeTurn_keeps_attn : Keeps AttnJudged purgeTurn := by
  intro s h
  unfold purgeTurn
  split
  · exact attnJudged_ite (ofSignals_attnJudged.makeTurn _ s h) h
  · exact h

theorem lsyncPulse_keeps_attn : Keeps AttnJudged lsyncPulse := by
  intro s h
  have hsettle : ∀ n u, AttnJudged u → AttnJudged (judgeSettle n u) := fun n u hu => by
    unfold judgeSettle
    split
    · exact hu
    · exact attnJudged_ite (attnJudged_ite hu hu) hu
  have hpulse : AttnJudged { s with clk := s.clk.pulse } := h
  exact attnJudged_ite hpulse (hsettle _ _ (attnJudged_ite (attnJudged_setNotice _ _ _) hpulse))

/-! ### The sighting port, the planner and the held list -/

theorem admitSighting_keeps_attn (g : Sighting) : Keeps AttnJudged (admitSighting g) := fun _ h =>
  attnJudged_ite (attnJudged_ite h (attnJudged_setNotice _ _ _)) h

theorem takeVerdict_keeps_attn (c : Chute) (tag : Byte) (confirm : Bool) :
    Keeps AttnJudged (takeVerdict c tag confirm) := by
  intro s h
  obtain ⟨t, he | he, ht⟩ := takeVerdict_frame s c tag confirm
  all_goals
    have hj : AttnJudged t := h.of_signals (signals_of_frame ht rfl)
    rw [he]
  · exact hj
  · exact ofSignals_attnJudged.endWindDown t hj

theorem completeRecord_keeps_attn (bytes : List Byte) : Keeps AttnJudged (completeRecord bytes) := by
  intro s h
  unfold completeRecord
  split
  · exact attnJudged_setNotice _ _ _
  · exact attnJudged_setNotice _ _ _
  · exact admitSighting_keeps_attn _ (setRecordRx _ s) h
  · exact takeVerdict_keeps_attn _ _ _ (setRecordRx _ s) h

theorem recordByte_keeps_attn (b : Byte) : Keeps AttnJudged fun s => recordByte s b := by
  intro s h
  unfold recordByte
  dsimp only
  split
  · exact h
  · exact attnJudged_ite h (completeRecord_keeps_attn _ s h)

theorem recordGap_keeps_attn : Keeps AttnJudged recordGap := by
  intro s h
  unfold recordGap
  split
  · exact attnJudged_setNotice _ _ _
  · exact h
  · exact h

theorem plannerTake_keeps_attn : Keeps AttnJudged plannerTake := by
  intro s h
  unfold plannerTake
  split <;> exact h

theorem nozzleSetStep_keeps_attn (r : PlanRecord) : Keeps AttnJudged (nozzleSetStep r) := by
  intro s h
  have hclip : ∀ (c : Prop) [Decidable c] (g : Sighting) (r : PlanRecord),
      AttnJudged (setPlan r (if c then countSighting g.chute g.cls .clipped s else s)) := fun c _ g r => by
    split <;> exact h
  exact attnJudged_ite h (attnJudged_ite h (hclip _ _ _))

/-- A hand-off to a full list sets a notice before the sighting is settled (R82). -/
theorem handOff_keeps_attn (e : HeldEntry) : Keeps AttnJudged (handOff e) := by
  intro s h
  unfold handOff
  refine attnJudged_ite ?_ (attnJudged_ite ?_ (attnJudged_ite ?_ h))
  · exact h.of_signals (signals_of_frame (expireSighting_frame s e) rfl)
  · exact h.of_signals (signals_of_frame (resolveAtOnce_frame (countChute _ _ s) e) rfl)
  · exact (attnJudged_setNotice .heldFull (some e.chute) s).of_signals (signals_of_frame (resolveAtOnce_frame _ e) rfl)

theorem deadlineExpiry_keeps_attn (c : Chute) (tag : Byte) : Keeps AttnJudged (deadlineExpiry c tag) := by
  intro s h
  unfold deadlineExpiry
  split
  · refine attnJudged_ite (ofSignals_attnJudged.endWindDown _ ?_) h
    exact h.of_signals (signals_of_frame (expireSighting_frame (removeHeld c tag s) _) rfl)
  · exact h

theorem placeAndCount_keeps_attn (c : Chute) (k prio : Nat) (plan : List PlanFiring) :
    Keeps AttnJudged (placeAndCount c k prio plan) :=
  keeps_attn_of_signals fun s => signals_of_frame (placeAndCount_frame s c k prio plan) rfl

/-! ### Dispatchers and valve buses -/

theorem concludeGrant_keeps_attn (c : Chute) : Keeps AttnJudged fun s => conclude (grantNext c s) := fun s h =>
  ofSignals_attnJudged.conclude _ (h.of_signals (signals_grantNext s c))

theorem entryStart_keeps_attn (g : Nat) : Keeps AttnJudged (entryStart g) := by
  intro s h
  unfold entryStart
  split
  · exact concludeGrant_keeps_attn _ _ (h.of_signals (signals_of_frame (judgeStart_frame s g _) rfl))
  · exact h

theorem entryEnd_keeps_attn (g : Nat) : Keeps AttnJudged (entryEnd g) := by
  intro s h
  unfold entryEnd
  split
  · exact concludeGrant_keeps_attn _ _ (h.of_signals (signals_of_frame (endEntry_frame s g _) rfl))
  · exact h

theorem commandSent_keeps_attn (c : Chute) : Keeps AttnJudged (commandSent c) := by
  intro s h
  unfold commandSent
  dsimp only
  split
  · exact attnJudged_ite h h
  · exact h

/-- A nozzle that fails sets its notice (R134). -/
theorem makeFailed_keeps_attn (g : Nat) (cause : FailureCause) : Keeps AttnJudged (makeFailed g cause) := by
  intro s h
  have hset := attnJudged_setNotice .nozzleFailed (some (chuteOf g))
    (s.setNozzle g { s.nozzle g with state := .failed, cause := cause })
  exact attnJudged_ite h (attnJudged_ite hset hset)

theorem nozzleEffect_keeps_attn (t : Transaction) (result : LastResult) (m : Nat) :
    Keeps AttnJudged (nozzleEffect t result m) := by
  intro s h
  unfold nozzleEffect
  split
  · exact h
  · exact attnJudged_ite (makeFailed_keeps_attn _ _ _ h) h
  · exact makeFailed_keeps_attn _ _ (s.setNozzle _ _) h
  · exact h
  · exact attnJudged_setNotice _ _ _
  · exact attnJudged_setNotice _ _ _
  · exact h

theorem freeBus_keeps_attn (c : Chute) : Keeps AttnJudged fun s => conclude (freeBus c s) := fun s h =>
  concludeGrant_keeps_attn c (s.setBus c { s.busOf c with inFlight := none }) h

theorem completeTransaction_keeps_attn (c : Chute) (t : Transaction) (result : LastResult) (m : Nat) :
    Keeps AttnJudged (completeTransaction c t result m) := by
  intro s h
  have heffect := nozzleEffect_keeps_attn t result m
    (if t.retry && result != .noReply then flipLane c t.lane s else s) (attnJudged_ite (attnJudged_setNotice _ _ _) h)
  exact freeBus_keeps_attn c _ (heffect.of_signals (signals_of_frame (dispatchEffect_frame _ t result) rfl))

theorem closeAllSendEnds_keeps_attn (c : Chute) (t : Transaction) : Keeps AttnJudged (closeAllSendEnds c t) := by
  intro s h
  unfold closeAllSendEnds
  split
  · exact h
  · exact freeBus_keeps_attn c _ (attnJudged_ite h (attnJudged_setNotice _ _ _))

theorem replyWaitExpiry_keeps_attn (c : Chute) : Keeps AttnJudged (replyWaitExpiry c) := by
  intro s h
  have hretry : ∀ t : Transaction,
      AttnJudged (if t.retry then completeTransaction c t .noReply 0 s else retry c t s) := fun t =>
    attnJudged_ite (completeTransaction_keeps_attn c t _ _ s h) h
  unfold replyWaitExpiry
  split
  · exact h
  · split
    · exact h
    · refine attnJudged_ite ?_ h
      split
      · exact closeAllSendEnds_keeps_attn c _ s h
      · exact hretry _
      · exact hretry _

theorem valveReply_keeps_attn (c : Chute) (lane : Lane) (bytes : List Byte) :
    Keeps AttnJudged (valveReply c lane bytes) := by
  intro s h
  unfold valveReply
  split
  · refine attnJudged_ite ?_ h
    split
    · exact closeAllSendEnds_keeps_attn c _ s h
    · exact completeTransaction_keeps_attn c _ _ _ s h
    · exact completeTransaction_keeps_attn c _ _ _ s h
  · exact h

/-! ### Every step -/

theorem replyTurnaroundEnd_keeps_attn : Keeps AttnJudged replyTurnaroundEnd := by
  intro s h
  unfold replyTurnaroundEnd
  split
  · exact attnJudged_ite h h
  · exact h

theorem replySent_keeps_attn : Keeps AttnJudged replySent := by
  intro s h
  unfold replySent
  split <;> exact h

theorem linkBlind_attn : LinkBlind AttnJudged where
  setFrameRx _ _ h := h
  controlError _ _ h := h
  giveReply _ _ _ h := h

/-- Every event of the part and of its inputs leaves ATTN judged. -/
theorem events_keep_attn : EventsKeep AttnJudged where
  heldInReset _ _ := rfl
  coldResetEnd := coldResetEnd_keeps_attn
  lsyncPulse := lsyncPulse_keeps_attn
  lsyncLow _ h := h
  recordByte := recordByte_keeps_attn
  recordGap := recordGap_keeps_attn
  collecting _ h := h
  plannerTake := plannerTake_keeps_attn
  endWindDown := ofSignals_attnJudged.endWindDown
  ageStep _ _ _ h := attnJudged_ite h h
  bankStep _ _ _ h := h
  bandStep _ _ _ h := attnJudged_ite h h
  nozzleSetStep r s _ h := nozzleSetStep_keeps_attn r s h
  sizeBandStep _ _ _ h := h
  widthStep _ _ _ h := attnJudged_ite h h
  flightStep _ _ _ h := h
  seenTimeStep _ _ _ h := h
  perNozzleTimesStep _ _ _ h := h
  leadStep _ _ _ h := attnJudged_ite h h
  confidenceStep _ s _ h := attnJudged_ite h (handOff_keeps_attn _ (endPlanning s) h)
  placement _ s _ h := placeAndCount_keeps_attn _ _ _ _ (endPlanning s) h
  deadlineExpiry := deadlineExpiry_keeps_attn
  entryStart := entryStart_keeps_attn
  entryEnd := entryEnd_keeps_attn
  grant := concludeGrant_keeps_attn
  commandSent := commandSent_keeps_attn
  replyWaitExpiry := replyWaitExpiry_keeps_attn
  valveReply := valveReply_keeps_attn
  estopAssertion := estopAssertion_keeps_attn
  estopRelease _ h := h
  airlowAssertion := airlowAssertion_keeps_attn
  airlowRelease _ h := h
  purgeTurn := purgeTurn_keeps_attn
  concludePurge := ofSignals_attnJudged.concludePurge
  windDownLimitExpiry := windDownLimitExpiry_keeps_attn
  warmReset s _ := attnJudged_warmReset s
  concludeDry := ofSignals_attnJudged.concludeDry
  replyTurnaroundEnd := replyTurnaroundEnd_keeps_attn
  replySent := replySent_keeps_attn

/-- Settles O52: whatever touches the notices or their mask judges ATTN last, and nothing else matters to it. -/
theorem stepKeepsAttnJudged : Obligations.StepKeepsAttnJudged := fun _ _ hs h =>
  step_keeps (fun _ _ h => h) (fun _ h => h)
    (exec_keeps linkBlind_attn ofSignals_attnJudged.commandsKeep events_keep_attn) hs h

end Sys2Proof.Machine
end

section
/-! The control link byte by byte (O33, O34): R166, R167, R185, R187. The receiver gathers the bytes of a frame up to the
last one, which decides between the frame's judgement and a control error. -/

namespace Sys2Proof.Machine

/-! ### What is gathered of a frame -/

/-- The bytes after START of a frame that goes on: its LENGTH is taken, if it has come, and its last byte has not. -/
def PartialFrame : List Byte → Prop
  | _ :: _ :: len :: rest => len.toNat ≤ 200 ∧ rest.length < len.toNat + 2
  | _ => True

theorem PartialFrame.init {l : List Byte} {b : Byte} (h : PartialFrame (l ++ [b])) : PartialFrame l := by
  match l, h with
  | [], _ | [_], _ | [_, _], _ => trivial
  | _ :: _ :: _ :: rest, ⟨hlen, hrest⟩ =>
    rw [List.append_eq, List.length_append] at hrest
    exact ⟨hlen, by omega⟩

/-- A frame that goes on is neither too long nor whole (R166). -/
theorem PartialFrame.goes_on {l : List Byte} (h : PartialFrame l) (start : Byte) :
    lengthTooGreat (start :: l) = false ∧ frameWhole (start :: l) = false := by
  match l, h with
  | [], _ | [_], _ | [_, _], _ => exact ⟨rfl, rfl⟩
  | [_, _, len], ⟨hlen, _⟩ => exact ⟨decide_eq_false (by simpa [Config.maxPayload] using hlen), by simp [frameWhole]⟩
  | _ :: _ :: len :: b :: rest, ⟨_, hrest⟩ => exact ⟨rfl, beq_false_of_ne hrest.ne⟩

theorem toNat_length {payload : List Byte} (h : payload.length ≤ 200) :
    (BitVec.ofNat 8 payload.length).toNat = payload.length := toNat_byte (by omega)

/-! ### The receiver -/

section
variable {s : State}

theorem setFrameRx_self {r : FrameRx} (h : s.link.rx = r) : setFrameRx r s = s := by
  subst h
  rfl

theorem frameBytesIn_append (l l' : List Byte) (s : State) :
    frameBytesIn (l ++ l') s = frameBytesIn l' (frameBytesIn l s) := List.foldl_append

/-- A byte after those gathered of a frame (R166). -/
theorem frameByte_collecting (htx : s.link.tx = .idle) (gathered : List Byte) (b : Byte) :
    frameByte (setFrameRx (.collecting gathered) s) b =
      if lengthTooGreat (gathered ++ [b]) then controlError .resyncing s
      else if frameWhole (gathered ++ [b]) then
        completeFrame (gathered ++ [b]) (setFrameRx (.collecting gathered) s)
      else setFrameRx (.collecting (gathered ++ [b])) s := by
  have htx' : (setFrameRx (.collecting gathered) s).link.tx = .idle := htx
  have hrx' : (setFrameRx (.collecting gathered) s).link.rx = .collecting gathered := rfl
  simp only [frameByte, htx', hrx']
  rfl

theorem frameBytesIn_start (htx : s.link.tx = .idle) (hrx : s.link.rx = .hunting) :
    frameBytesIn [startByte] s = setFrameRx (.collecting [startByte]) s := by
  simp [frameBytesIn, frameByte, htx, hrx]

/-- A frame is gathered as far as it goes (R166). -/
theorem frameBytesIn_partial (htx : s.link.tx = .idle) (hrx : s.link.rx = .hunting) {l : List Byte}
    (h : PartialFrame l) : frameBytesIn (startByte :: l) s = setFrameRx (.collecting (startByte :: l)) s := by
  induction l using List.reverseRecOn with
  | nil => exact frameBytesIn_start htx hrx
  | append_singleton l b ih =>
    obtain ⟨hshort, hopen⟩ := h.goes_on startByte
    rw [← List.cons_append, frameBytesIn_append, ih h.init]
    refine (frameByte_collecting htx _ b).trans ?_
    rw [List.cons_append, hshort, hopen]
    rfl

/-- The byte that follows a frame gathered so far (R166). -/
theorem frameBytesIn_partial_byte (htx : s.link.tx = .idle) (hrx : s.link.rx = .hunting) {l : List Byte}
    (h : PartialFrame l) (b : Byte) : frameBytesIn (startByte :: (l ++ [b])) s =
      if lengthTooGreat (startByte :: (l ++ [b])) then controlError .resyncing s
      else if frameWhole (startByte :: (l ++ [b])) then
        completeFrame (startByte :: (l ++ [b])) (setFrameRx (.collecting (startByte :: l)) s)
      else setFrameRx (.collecting (startByte :: (l ++ [b]))) s := by
  rw [← List.cons_append, frameBytesIn_append, frameBytesIn_partial htx hrx h]
  exact frameByte_collecting htx _ b

/-- The CHECK of a whole frame decides between its judgement and a control error (R166, R167). -/
theorem completeFrame_body (addr kind c1 c0 : Byte) {payload : List Byte} (h : payload.length ≤ 200) (s : State) :
    completeFrame (startByte :: (frameBody addr kind payload ++ [c1, c0])) s =
      if [c1, c0] = bytes16 (crc16 (frameBody addr kind payload)).toNat then
        judgeFrame addr kind payload (setFrameRx .hunting s)
      else controlError .resyncing s := by
  simp only [completeFrame, frameBody, List.cons_append, toNat_length h, List.take_left, List.drop_left]
  rfl

/-- A whole frame that an IDLE transmitter's HUNTING receiver takes up byte by byte (R166, R167). -/
theorem frameBytesIn_frame (htx : s.link.tx = .idle) (hrx : s.link.rx = .hunting) (addr kind c1 c0 : Byte)
    {payload : List Byte} (h : payload.length ≤ 200) :
    frameBytesIn (startByte :: (frameBody addr kind payload ++ [c1, c0])) s =
      if [c1, c0] = bytes16 (crc16 (frameBody addr kind payload)).toNat then judgeFrame addr kind payload s
      else controlError .resyncing s := by
  have hpart : PartialFrame (frameBody addr kind payload ++ [c1]) := by
    refine ⟨(toNat_length h).trans_le h, ?_⟩
    rw [toNat_length h, List.append_eq, List.length_append, List.length_singleton]
    omega
  have hwhole : frameWhole (startByte :: (frameBody addr kind payload ++ [c1, c0])) = true := by
    simp [frameWhole, frameBody, toNat_length h]
  have hshort : lengthTooGreat (startByte :: (frameBody addr kind payload ++ [c1, c0])) = false := by
    cases payload <;> rfl
  have hlast := frameBytesIn_partial_byte htx hrx hpart c0
  rw [List.append_assoc, List.singleton_append, hshort, hwhole] at hlast
  refine hlast.trans ((completeFrame_body addr kind c1 c0 h _).trans ?_)
  exact if_congr Iff.rfl (congrArg _ (setFrameRx_self hrx)) rfl

end

/-- Settles O33: the frame that was sent has the CHECK that its bytes are checked by. -/
theorem frameBytesAreJudgedAsTheFrame : Obligations.FrameBytesAreJudgedAsTheFrame := by
  intro s addr kind payload h hl
  obtain ⟨-, htx, hrx⟩ := id h
  refine ⟨(frameBytesIn_frame htx hrx addr kind _ _ hl).trans (if_pos rfl), ?_⟩
  exact exec_unknownCommand_listening h addr kind hl

/-! ### Control errors -/

section
variable {s : State}

theorem exec_controlError (hs : Awake s) (bytes : List Byte) :
    exec (.controlError bytes) s = .next (frameBytesIn bytes s) := live_awake s hs

theorem exec_frameIdleTimeout (hs : Awake s) (bytes : List Byte) :
    exec (.frameIdleTimeout bytes) s = .next (frameGap (frameBytesIn bytes s)) :=
  live_awake s (f := fun s => frameGap (frameBytesIn bytes s)) hs

theorem exec_controlResyncTimeout (hs : Awake s) :
    exec .controlResyncTimeout s = .next (if s.link.rx = .resyncing then setFrameRx .hunting s else s) :=
  live_awake s hs

/-- What follows a control error without a gap is lost (R166). -/
theorem frameBytesIn_after_error {l : List Byte} (h : frameBytesIn l s = controlError .resyncing s) (rest : List Byte) :
    frameBytesIn (l ++ rest) s = controlError .resyncing s := by
  rw [frameBytesIn_append, h]
  exact frameBytesIn_lost _ rest (.inr rfl)

theorem exec_bad_check (hs : Awake s) (htx : s.link.tx = .idle) (hrx : s.link.rx = .hunting) (addr kind c1 c0 : Byte)
    {payload : List Byte} (rest : List Byte) (hl : payload.length ≤ 200)
    (hbad : [c1, c0] ≠ bytes16 (crc16 (frameBody addr kind payload)).toNat) :
    exec (.controlError (startByte :: (frameBody addr kind payload ++ c1 :: c0 :: rest))) s
      = .next (controlErrorWith .resyncing s) := by
  have hframe := (frameBytesIn_frame htx hrx addr kind c1 c0 hl).trans (if_neg hbad)
  have hrest := frameBytesIn_after_error hframe rest
  rw [List.cons_append, List.append_assoc] at hrest
  exact (exec_controlError hs _).trans (congrArg _ hrest)

theorem exec_long_frame (hs : Awake s) (htx : s.link.tx = .idle) (hrx : s.link.rx = .hunting) (addr kind : Byte)
    {len : Byte} (rest : List Byte) (hl : 200 < len.toNat) :
    exec (.controlError (startByte :: addr :: kind :: len :: rest)) s = .next (controlErrorWith .resyncing s) := by
  have hlong : lengthTooGreat [startByte, addr, kind, len] = true := decide_eq_true hl
  have hlast := (frameBytesIn_partial_byte htx hrx (l := [addr, kind]) trivial len).trans (if_pos hlong)
  exact (exec_controlError hs _).trans (congrArg _ (frameBytesIn_after_error hlast rest))

/-- The gap after a frame that goes on (R166, R167). -/
theorem exec_partial_frame (hs : Awake s) (htx : s.link.tx = .idle) (hrx : s.link.rx = .hunting) {l : List Byte}
    (h : PartialFrame l) : exec (.frameIdleTimeout (startByte :: l)) s = .next (controlErrorWith .hunting s) := by
  rw [exec_frameIdleTimeout hs, frameBytesIn_partial htx hrx h]
  rfl

theorem exec_unknownCommand_lost (hs : Awake s) (htx : s.link.tx ≠ .idle) (addr kind : Byte) (payload : List Byte) :
    exec (.unknownCommand addr kind payload) s = .next s := by
  refine (live_awake s hs).trans (congrArg _ ?_)
  exact (if_neg fun h => htx h.1).trans (frameBytesIn_lost s _ (.inl htx))

end

/-- Settles O34: a frame is gathered until its CHECK, its LENGTH or a gap ends it, and all else is lost. -/
theorem badFramesAreControlErrors : Obligations.BadFramesAreControlErrors := by
  intro s hs
  refine ⟨fun htx hrx => ⟨?_, ?_, ?_⟩, fun hrx => ⟨fun bytes => ?_, ?_⟩, fun hrx => ?_, fun htx bytes addr kind => ⟨?_, ?_⟩⟩
  · exact fun addr kind c1 c0 payload rest => exec_bad_check hs htx hrx addr kind c1 c0 rest
  · exact fun addr kind len rest => exec_long_frame hs htx hrx addr kind rest
  · intro addr kind n payload hn hpayload
    have hlen : (BitVec.ofNat 8 n).toNat = n := toNat_byte (by omega)
    have hpart : PartialFrame (addr :: kind :: BitVec.ofNat 8 n :: payload) :=
      ⟨hlen.trans_le hn, hpayload.trans_eq (by rw [hlen])⟩
    exact ⟨exec_partial_frame hs htx hrx trivial, exec_partial_frame hs htx hrx trivial,
      exec_partial_frame hs htx hrx trivial, exec_partial_frame hs htx hrx hpart⟩
  · rw [exec_controlError hs, frameBytesIn_lost s bytes (.inr hrx)]
  · rw [exec_controlResyncTimeout hs, if_pos hrx]
    rfl
  · rw [exec_controlResyncTimeout hs, if_neg hrx]
  · rw [exec_controlError hs, frameBytesIn_lost s bytes (.inl htx)]
  · exact exec_unknownCommand_lost hs htx addr kind bytes

end Sys2Proof.Machine
end

section
/-! The replies of the control link (O35): the turnaround, the end of a reply, and a reply's frame: R166, R170, R185, R187
and 12.4. -/

namespace Sys2Proof.Machine

/-! ### The transmitter -/

section
variable {s : State}

theorem exec_replyTurnaroundEnd (hs : Awake s) : exec .replyTurnaroundEnd s = .next (replyTurnaroundEnd s) :=
  live_awake s hs

theorem exec_replySent (hs : Awake s) : exec .replySent s = .next (replySent s) := live_awake s hs

theorem replyTurnaroundEnd_of_turnaround {reply : Reply} {since : Time} (h : s.link.tx = .turnaround reply since) :
    replyTurnaroundEnd s =
      if 20 ≤ (s.clk.now - since).toNat then { s with link := { s.link with tx := .sending reply } } else s := by
  unfold replyTurnaroundEnd
  rw [h]
  rfl

theorem replyTurnaroundEnd_of_none (h : ∀ reply since, s.link.tx ≠ .turnaround reply since) :
    replyTurnaroundEnd s = s := by
  unfold replyTurnaroundEnd
  split
  · exact absurd ‹_› (h _ _)
  · rfl

theorem replySent_of_sending {reply : Reply} (h : s.link.tx = .sending reply) :
    replySent s = { s with link := { s.link with tx := .idle, rx := .hunting } } := by
  unfold replySent
  rw [h]

theorem replySent_of_none (h : ∀ reply, s.link.tx ≠ .sending reply) : replySent s = s := by
  unfold replySent
  split
  · exact absurd ‹_› (h _)
  · rfl

end

/-! ### A reply's frame -/

theorem resultCode_listed (result : Result) : (result, resultCode result) ∈ [(Result.done, (0 : Byte)), (.clamped, 1),
    (.unknown, 2), (.malformed, 3), (.notNow, 4), (.outOfRange, 5), (.noWindow, 6), (.notLoaded, 7), (.settling, 8),
    (.cold, 9)] := by
  cases result <;> decide

/-- The reply mark is bit 7 of the KIND (12.4). -/
theorem replyMark (kind : Byte) :
    (∀ i < 7, (kind ||| 0x80#8).getLsbD i = kind.getLsbD i) ∧ (kind ||| 0x80#8).msb = true := by
  have hmark : ∀ i < 7, (0x80#8).getLsbD i = false := by decide
  refine ⟨fun i hi => ?_, ?_⟩
  · rw [BitVec.getLsbD_or, hmark i hi, Bool.or_false]
  · rw [BitVec.msb_or]
    exact Bool.or_true _

/-- The two bytes of the CHECK spell the CRC-16 (R185, R187). -/
theorem check_bytes (c : BitVec 16) : (BitVec.ofNat 8 (c.toNat / 256) ++ BitVec.ofNat 8 c.toNat : BitVec 16) = c :=
  BitVec.eq_of_toNat_eq ((toNat_append_byte _ _).trans (num16_bytes c.isLt))

/-- The eight unrolled bits of the CRC-16 are the loop of R187. -/
theorem crc16_eq_loop (bytes : List Byte) : crc16 bytes = bytes.foldl (fun (c : BitVec 16) (b : Byte) =>
    (List.range 8).foldl (fun (c : BitVec 16) _ => if c.msb then (c <<< 1) ^^^ 0x1021#16 else c <<< 1)
      (c ^^^ (b ++ 0#8))) 0xFFFF#16 := rfl

/-- Settles O35: the transmitter's two events, each where it is due and where it is not, and the bytes of a reply. -/
theorem replyWaitsItsTurnaround : Obligations.ReplyWaitsItsTurnaround := by
  refine ⟨fun s reply hs => ⟨fun since h => ?_, fun h => ?_⟩, fun s hs => ⟨fun h => ?_, fun h => ?_⟩,
    fun address kind result payload hl => ?_, crc16_eq_loop⟩
  · rw [exec_replyTurnaroundEnd hs, replyTurnaroundEnd_of_turnaround h]
    exact ⟨fun hlate => congrArg _ (if_pos hlate), fun hearly => congrArg _ (if_neg hearly.not_ge)⟩
  · rw [exec_replySent hs, replySent_of_sending h]
  · rw [exec_replyTurnaroundEnd hs, replyTurnaroundEnd_of_none h]
  · rw [exec_replySent hs, replySent_of_none h]
  · obtain ⟨hkind, hmark⟩ := replyMark kind
    refine ⟨kind ||| 0x80#8, BitVec.ofNat 8 (payload.length + 1), resultCode result, _, _, rfl, hkind, hmark,
      toNat_byte (by omega), resultCode_listed result, check_bytes _⟩

end Sys2Proof.Machine
end

section
/-! Commands by their KIND (O36): R168, R169, R171, R186 and the codes of 12.4. A frame comes down to the command of its
KIND, and each row of a host command to the frame of its own. -/

namespace Sys2Proof.Machine

/-! ### The command of a KIND -/

/-- Whether the command of a KIND exists for its reply alone: POLL, NOTICES, GET, NOZZLE READ, QUERY, TALLY (R168). -/
def repliesAlone (kind : Byte) : Bool := [0x01, 0x02, 0x0C, 0x0E, 0x13, 0x14].contains kind.toNat

/-- What a frame's command does, by its KIND (R169, 12.4). -/
def commandOf (kind : Byte) (p : List Byte) : State → State × Answer :=
  match kind.toNat with
  | 0x01 => cmdPoll p
  | 0x02 => cmdNotices p
  | 0x03 => cmdRearm p
  | 0x04 => cmdGoRun p
  | 0x05 => cmdGoStandby p
  | 0x06 => cmdPurge p
  | 0x07 => cmdRestart p
  | 0x08 => cmdClearCold p
  | 0x09 => cmdDry p
  | 0x0A => cmdWindow p
  | 0x0B => cmdPut p
  | 0x0C => cmdGet p
  | 0x0D => cmdSwap p
  | 0x0E => cmdNozzleRead p
  | 0x0F => cmdNozzleWrite p
  | 0x10 => cmdTest p
  | 0x11 => cmdLane p
  | 0x12 => cmdSet p
  | 0x13 => cmdQuery p
  | 0x14 => cmdTally p
  | _ => refuse .unknown

theorem repliesAlone_iff (kind : Byte) : repliesAlone kind = true ↔
    kind = 0x01 ∨ kind = 0x02 ∨ kind = 0x0C ∨ kind = 0x0E ∨ kind = 0x13 ∨ kind = 0x14 := by
  simp [repliesAlone, ← BitVec.toNat_inj]

/-- A frame without the reply mark comes down to the command of its KIND (R167 to R169). -/
theorem judgeFrame_eq_answer {kind : Byte} (hm : kind.msb = false) (addr : Byte) (p : List Byte) (s : State) :
    judgeFrame addr kind p s = answer addr kind (repliesAlone kind) (commandOf kind p) s := by
  unfold judgeFrame commandOf repliesAlone
  rw [if_neg (by simp [hm])]
  generalize kind.toNat = n
  split
  case h_21 => simp_all
  all_goals rfl

/-- A command's row is the frame of its KIND. -/
theorem hostCommand_eq_frame {addr kind : Byte} {p : List Byte} {replyOnly : Bool} {cmd : State → State × Answer}
    (hm : kind.msb = false) (hr : repliesAlone kind = replyOnly) (hc : commandOf kind p = cmd) (s : State) :
    hostCommand addr kind p replyOnly cmd s = exec (.unknownCommand addr kind p) s := by
  have hjudge : judgeFrame addr kind p = answer addr kind replyOnly cmd := funext fun u => by
    rw [judgeFrame_eq_answer hm, hr, hc]
  show _ = execUnknownCommand addr kind p s
  unfold execUnknownCommand
  rw [hjudge]
  rfl

/-! ### The rows that stand for a first payload byte -/

section
variable (p : List Byte)

theorem cmdDry_off : cmdDry (0 :: p) = cmdDryOff p := by
  cases p <;> rfl

theorem cmdDry_on : cmdDry (1 :: p) = cmdDryOn p := by
  cases p <;> rfl

/-- A SWAP is its form's, whatever its LENGTH (R31, R186). -/
theorem cmdSwap_of_form {form : Byte} {cmd : State → State × Answer}
    (hform : ∀ s, cmdSwap (form :: p) s = if p.length ≠ 2 then refuse .malformed s else cmd s)
    (hlength : p.length ≠ 2 → cmd = refuse .malformed) : cmdSwap (form :: p) = cmd := by
  funext s
  rw [hform]
  split
  · rw [hlength ‹_›]
  · rfl

theorem cmdSwapAtLine_malformed (h : p.length ≠ 2) : cmdSwapAtLine p = refuse .malformed := by
  match p, h with
  | [], _ | [_], _ | _ :: _ :: _ :: _, _ => rfl

theorem cmdSwapAtNextLine_malformed (h : p.length ≠ 2) : cmdSwapAtNextLine p = refuse .malformed := by
  match p, h with
  | [], _ | [_], _ | _ :: _ :: _ :: _, _ => rfl

theorem cmdSwapCancel_malformed (h : p.length ≠ 2) : cmdSwapCancel p = refuse .malformed := by
  match p, h with
  | [], _ | [_], _ | _ :: _ :: _ :: _, _ => rfl

theorem withValue_malformed (f : Byte → Nat → State → State × Answer) (h : p.length ≠ 5) :
    withValue f p = refuse .malformed := by
  match p, h with
  | [], _ | [_], _ | [_, _], _ | [_, _, _], _ | [_, _, _, _], _ | _ :: _ :: _ :: _ :: _ :: _ :: _, _ => rfl

/-- A SET is its setting's, whatever its LENGTH (R171, R186). -/
theorem cmdSet_of_id {id : Byte} {cmd : State → State × Answer}
    (hid : ∀ s, cmdSet (id :: p) s = if p.length ≠ 5 then refuse .malformed s else cmd s)
    (hvalue : ∀ s, ∃ f, cmd s = withValue f p s) : cmdSet (id :: p) = cmd := by
  funext s
  rw [hid]
  split
  · obtain ⟨f, hf⟩ := hvalue s
    rw [hf, withValue_malformed p f ‹_›]
  · rfl

end

/-- Settles O36: the KIND of each row is its command's, and so is the first payload byte of a DRY, a SWAP or a SET. -/
theorem commandRowsAreFrames : Obligations.CommandRowsAreFrames := by
  intro s a p
  have hrow : ∀ {kind : Byte} {q : List Byte} {replyOnly : Bool} {cmd : State → State × Answer}, kind.msb = false →
      repliesAlone kind = replyOnly → commandOf kind q = cmd →
      hostCommand a kind q replyOnly cmd s = exec (.unknownCommand a kind q) s := fun hm hr hc =>
    hostCommand_eq_frame hm hr hc s
  have hset : ∀ {id : Byte} {cmd : State → State × Answer},
      (∀ s, cmdSet (id :: p) s = if p.length ≠ 5 then refuse .malformed s else cmd s) →
      (∀ s, ∃ f, cmd s = withValue f p s) →
      hostCommand a 0x12 (id :: p) false cmd s = exec (.unknownCommand a 0x12 (id :: p)) s := fun hid hvalue =>
    hrow rfl rfl (cmdSet_of_id p hid hvalue)
  exact ⟨hrow rfl rfl rfl, hrow rfl rfl rfl, hrow rfl rfl rfl, hrow rfl rfl rfl, hrow rfl rfl rfl, hrow rfl rfl rfl,
    hrow rfl rfl rfl, hrow rfl rfl rfl, hrow rfl rfl (cmdDry_off p), hrow rfl rfl (cmdDry_on p), hrow rfl rfl rfl,
    hrow rfl rfl rfl, hrow rfl rfl rfl,
    hrow rfl rfl (cmdSwap_of_form p (fun _ => rfl) (cmdSwapAtLine_malformed p)),
    hrow rfl rfl (cmdSwap_of_form p (fun _ => rfl) (cmdSwapAtNextLine_malformed p)),
    hrow rfl rfl (cmdSwap_of_form p (fun _ => rfl) (cmdSwapCancel_malformed p)),
    hrow rfl rfl rfl, hrow rfl rfl rfl, hrow rfl rfl rfl, hrow rfl rfl rfl,
    hset (fun _ => rfl) fun _ => ⟨_, rfl⟩, hset (fun _ => rfl) fun _ => ⟨_, rfl⟩, hset (fun _ => rfl) fun _ => ⟨_, rfl⟩,
    hset (fun _ => rfl) fun _ => ⟨_, rfl⟩, hset (fun _ => rfl) fun _ => ⟨_, rfl⟩, hset (fun _ => rfl) fun _ => ⟨_, rfl⟩,
    hset (fun _ => rfl) fun _ => ⟨_, rfl⟩, hset (fun _ => rfl) fun _ => ⟨_, rfl⟩, hset (fun _ => rfl) fun _ => ⟨_, rfl⟩,
    hset (fun _ => rfl) fun _ => ⟨_, rfl⟩, hset (fun _ => rfl) fun _ => ⟨_, rfl⟩, hset (fun _ => rfl) fun _ => ⟨_, rfl⟩,
    hset (fun _ => rfl) fun _ => ⟨_, rfl⟩, hrow rfl rfl rfl, hrow rfl rfl rfl⟩

end Sys2Proof.Machine
end

section
/-! Frames by their ADDRESS (O37): R167 to R169. A command acts alike by whichever address it comes; the address decides
whether it acts and whether it is answered. -/

namespace Sys2Proof.Machine

/-! ### Where a frame goes (R168) -/

section
variable {s : State} {addr : Byte}

theorem route_address (ha : addr = s.link.address) (h1 : 1 ≤ addr.toNat) (h32 : addr.toNat ≤ 32) :
    route s addr = .reply := by
  rw [route, if_neg (by omega), if_neg (by rintro rfl; simp at h1), if_pos ha]

theorem route_broadcast : route s 0 = .silent := rfl

theorem route_group (hg : addr = s.settings.group) (hlt : addr.toNat < 64) (ha : addr ≠ s.link.address) :
    route s addr = .silent := by
  simp [route, ← hg, ha, show ¬64 ≤ addr.toNat by omega]

theorem route_other (h0 : addr ≠ 0) (ha : addr ≠ s.link.address) (hg : 64 ≤ addr.toNat ∨ addr ≠ s.settings.group) :
    route s addr = .ignore := by
  by_cases h64 : 64 ≤ addr.toNat
  · exact if_pos h64
  · rw [route, if_neg h64, if_neg h0, if_neg ha, if_neg (hg.resolve_left h64)]

end

/-! ### What a command does to the transmitter -/

/-- The command of a KIND keeps what every command keeps. -/
theorem commandOf_keeps {P : State → Prop} (hc : CommandsKeep P) (kind : Byte) (p : List Byte) :
    KeepsCmd P (commandOf kind p) := by
  unfold commandOf
  split
  · exact hc.poll p
  · exact hc.notices p
  · exact hc.rearm p
  · exact hc.goRun p
  · exact hc.goStandby p
  · exact hc.purge p
  · exact hc.restart p
  · exact hc.clearCold p
  · exact hc.dry p
  · exact hc.window p
  · exact hc.put p
  · exact hc.get p
  · exact hc.swap p
  · exact hc.nozzleRead p
  · exact hc.nozzleWrite p
  · exact hc.test p
  · exact hc.lane p
  · exact hc.set p
  · exact hc.query p
  · exact hc.tally p
  · exact refuse_keeps .unknown

/-- An IDLE transmitter stays IDLE until a reply is given to it (R170). -/
theorem ofSignals_transmitterIdle : OfSignals fun s => s.link.tx = .idle where
  of_same h he := (congrArg Prod.fst he).trans h
  setNotice _ _ _ h := h
  warmReset s h := by
    rw [warmReset_eq]
    exact congrArg (Transmitter.warm s.clk.now) h
  disarm _ h := h
  clearNotices _ h := h
  rearm _ h := h
  storeMask _ _ h := h

theorem commandOf_transmitter (kind : Byte) (p : List Byte) {s : State} (h : s.link.tx = .idle) :
    (commandOf kind p s).1.link.tx = .idle :=
  commandOf_keeps ofSignals_transmitterIdle.commandsKeep kind p s h

/-- A state less the reply just given to its IDLE transmitter. -/
theorem giveReply_taken_back {kind : Byte} {a : Answer} {s : State} (h : s.link.tx = .idle) :
    { giveReply kind a s with link := { (giveReply kind a s).link with tx := .idle } } = s := by
  rw [← h]
  rfl

/-! ### A frame by its address -/

section
variable {s : State} {addr kind : Byte} {p : List Byte}

theorem answer_of_ignore {replyOnly : Bool} {cmd : State → State × Answer} (h : route s addr = .ignore) :
    answer addr kind replyOnly cmd s = s := by
  rw [answer, h]

theorem answer_of_silent {replyOnly : Bool} {cmd : State → State × Answer} (h : route s addr = .silent) :
    answer addr kind replyOnly cmd s = if replyOnly then s else (cmd s).1 := by
  rw [answer, h]

theorem answer_of_reply {replyOnly : Bool} {cmd : State → State × Answer} (h : route s addr = .reply) :
    answer addr kind replyOnly cmd s = giveReply kind (cmd s).2 (cmd s).1 := by
  rw [answer, h]

/-- A frame without the reply mark acts by its command (R168, R169). -/
theorem exec_frame (h : Listening s) (hl : p.length ≤ 200) (hm : kind.msb = false) :
    exec (.unknownCommand addr kind p) s
      = .next (answer addr kind (repliesAlone kind) (commandOf kind p) s) := by
  rw [exec_unknownCommand_listening h addr kind hl, judgeFrame_eq_answer hm]

/-- A frame with the reply mark is another part's reply (R167). -/
theorem exec_reply_frame (h : Listening s) (hl : p.length ≤ 200) (hm : kind.msb = true) :
    exec (.unknownCommand addr kind p) s = .next s := by
  rw [exec_unknownCommand_listening h addr kind hl, judgeFrame, if_pos hm]

end

/-- A KIND that is no command's (12.4). -/
theorem commandOf_unknown {kind : Byte} (h : kind = 0 ∨ (0x15 ≤ kind.toNat ∧ kind.toNat < 128)) (p : List Byte) :
    commandOf kind p = refuse .unknown ∧ kind.msb = false := by
  have hrange : kind.toNat = 0 ∨ (0x15 ≤ kind.toNat ∧ kind.toNat < 128) := h.imp_left (congrArg BitVec.toNat)
  refine ⟨?_, ?_⟩
  · unfold commandOf
    split
    case h_21 => rfl
    all_goals omega
  · rw [BitVec.msb_eq_decide]
    exact decide_eq_false (by omega)

/-- Settles O37: the address decides whether the command acts and whether it is answered. -/
theorem framesAreSortedByAddress : Obligations.FramesAreSortedByAddress := by
  intro s addr kind payload h hl h1 h32 silent replyOnly
  obtain ⟨-, htx, -⟩ := id h
  have haddress : route s s.link.address = .reply := route_address rfl h1 h32
  have hsilent : silent → route s addr = .silent := by
    rintro (rfl | ⟨hg, hlt, ha⟩)
    · exact route_broadcast
    · exact route_group hg hlt ha
  refine ⟨exec_reply_frame h hl, fun ha hns => ?_, fun hm hs hr => ?_, fun hm hs hr t ht => ?_, fun hk => ?_⟩
  · cases hm : kind.msb with
    | true => exact exec_reply_frame h hl hm
    | false =>
      have hother : route s addr = .ignore := by
        refine route_other (fun h0 => hns (.inl h0)) ha ?_
        by_contra! hg
        exact hns (.inr ⟨hg.2, hg.1, ha⟩)
      rw [exec_frame h hl hm, answer_of_ignore hother]
  · rw [exec_frame h hl hm, answer_of_silent (hsilent hs), (repliesAlone_iff kind).2 hr]
    rfl
  · rw [exec_frame h hl hm, answer_of_reply haddress] at ht
    obtain rfl := Host.Outcome.next.inj ht
    rw [exec_frame h hl hm, answer_of_silent (hsilent hs), if_neg (mt (repliesAlone_iff kind).1 hr),
      giveReply_taken_back (commandOf_transmitter kind payload htx)]
  · obtain ⟨hc, hm⟩ := commandOf_unknown hk payload
    rw [exec_frame h hl hm, answer_of_reply haddress, hc]
    rfl

end Sys2Proof.Machine
end

section
/-! Wrong LENGTHs and unlisted codes (O38): R169, R186, 12.4. -/

namespace Sys2Proof.Machine

/-! ### Commands of a wrong LENGTH -/

section
variable {p : List Byte}

/-- A command without payload. -/
theorem malformed_of_payload {cmd : List Byte → State → State × Answer} (hcmd : ∀ b l, cmd (b :: l) = refuse .malformed)
    (h : p.length ≠ 0) : cmd p = refuse .malformed := by
  match p, h with
  | b :: l, _ => exact hcmd b l

theorem cmdPurge_malformed (h : p.length ≠ 5) : cmdPurge p = refuse .malformed := by
  match p, h with
  | [], _ | [_], _ | [_, _], _ | [_, _, _], _ | [_, _, _, _], _ | _ :: _ :: _ :: _ :: _ :: _ :: _, _ => rfl

theorem cmdDry_malformed (h : p.length ≠ 1) : cmdDry p = refuse .malformed := by
  match p, h with
  | [], _ | _ :: _ :: _, _ => rfl

theorem cmdWindow_malformed (h : p.length ≠ 6) : cmdWindow p = refuse .malformed := by
  match p, h with
  | [], _ | [_], _ | [_, _], _ | [_, _, _], _ | [_, _, _, _], _ | [_, _, _, _, _], _
  | _ :: _ :: _ :: _ :: _ :: _ :: _ :: _, _ => rfl

theorem cmdSwap_malformed (h : p.length ≠ 3) : cmdSwap p = refuse .malformed := by
  match p, h with
  | [], _ => rfl
  | _ :: rest, h => exact funext fun _ => if_pos fun hrest => h (congrArg (· + 1) hrest)

theorem cmdNozzleRead_malformed (h : p.length ≠ 1) : cmdNozzleRead p = refuse .malformed := by
  match p, h with
  | [], _ | _ :: _ :: _, _ => rfl

theorem cmdTest_malformed (h : p.length ≠ 3) : cmdTest p = refuse .malformed := by
  match p, h with
  | [], _ | [_], _ | [_, _], _ | _ :: _ :: _ :: _ :: _, _ => rfl

theorem cmdLane_malformed (h : p.length ≠ 2) : cmdLane p = refuse .malformed := by
  match p, h with
  | [], _ | [_], _ | _ :: _ :: _ :: _, _ => rfl

theorem cmdSet_malformed (h : p.length ≠ 6) : cmdSet p = refuse .malformed := by
  match p, h with
  | [], _ => rfl
  | _ :: rest, h => exact funext fun _ => if_pos fun hrest => h (congrArg (· + 1) hrest)

theorem cmdQuery_malformed (h : p.length ≠ 2) : cmdQuery p = refuse .malformed := by
  match p, h with
  | [], _ | [_], _ | _ :: _ :: _ :: _, _ => rfl

theorem cmdTally_malformed (h : p.length ≠ 3) : cmdTally p = refuse .malformed := by
  match p, h with
  | [], _ | [_], _ | [_, _], _ | _ :: _ :: _ :: _ :: _, _ => rfl

/-! ### PUT -/

theorem readEntry_of_length {t : TableId} (h : p.length ≠ entryLength t) : readEntry t p = none := by
  unfold readEntry
  split
  case h_5 => rfl
  all_goals exact absurd rfl h

/-- A PUT has one of the three entry lengths, and that of the open PUT window's table (R28, R186). -/
theorem cmdPut_malformed {s : State} (h : lengthFits s.link.window 0x0B p = false) :
    cmdPut p s = refuse .malformed s := by
  have hput : lengthFits s.link.window 0x0B p = (match s.link.window with
    | some w => if w.dir = .put then p.length == entryLength w.table else [2, 5, 11].contains p.length
    | none => [2, 5, 11].contains p.length) := rfl
  have hlisted : entryLengthAllowed p.length = [2, 5, 11].contains p.length := by
    simp [entryLengthAllowed, Bool.or_assoc, beq_eq_decide]
  rw [hput, ← hlisted] at h
  unfold cmdPut
  cases ha : entryLengthAllowed p.length with
  | false => rfl
  | true =>
    cases hw : s.link.window with
    | none => simp [hw, ha] at h
    | some w =>
      cases hd : w.dir with
      | get => simp [hw, hd, ha] at h
      | put =>
        have hnone : readEntry w.table p = none := readEntry_of_length (by simpa [hw, hd] using h)
        simp [hd, hnone]

/-! ### NOZZLE WRITE -/

section
variable {present : Bool} {l rest : List Byte}

theorem takeByte_length {o : Option Byte} (h : takeByte present l = some (o, rest)) :
    l.length = (if present then 1 else 0) + rest.length := by
  unfold takeByte at h
  split at h
  all_goals
    split at h
    all_goals cases h
  all_goals simp [*, Nat.add_comm]

theorem takeTwo_length {o : Option (Byte × Byte)} (h : takeTwo present l = some (o, rest)) :
    l.length = (if present then 2 else 0) + rest.length := by
  unfold takeTwo at h
  split at h
  all_goals
    split at h
    all_goals cases h
  all_goals simp [*]
  omega

theorem takeFour_length {o : Option Nat} (h : takeFour present l = some (o, rest)) :
    l.length = (if present then 4 else 0) + rest.length := by
  unfold takeFour at h
  split at h
  all_goals
    split at h
    all_goals cases h
  all_goals simp [*]
  omega

end

/-- The fields fill what the payload has after its presence byte (R186). -/
theorem readFields_length {presence : Byte} {l : List Byte} {f : NozzleFields} (h : readFields presence l = some f) :
    l.length = (if presence.getLsbD 0 then 1 else 0) + (if presence.getLsbD 1 then 2 else 0)
      + (if presence.getLsbD 2 then 2 else 0) + if presence.getLsbD 3 then 4 else 0 := by
  simp only [readFields, Option.bind_eq_bind, Option.bind_eq_some_iff] at h
  obtain ⟨⟨state, l1⟩, hstate, ⟨offset, l2⟩, hoffset, ⟨latency, l3⟩, hlatency, ⟨wear, l4⟩, hwear, hf⟩ := h
  have hend : l4 = [] := by
    split at hf
    · exact List.isEmpty_iff.1 ‹_›
    · cases hf
  have h1 := takeByte_length hstate
  have h2 := takeTwo_length hoffset
  have h3 := takeTwo_length hlatency
  have h4 := takeFour_length hwear
  rw [hend, List.length_nil] at h4
  dsimp only at h1 h2 h3 h4
  omega

/-- A NOZZLE WRITE has a presence byte and the fields that it names (R137, R186). -/
theorem cmdNozzleWrite_malformed {window : Option Window} (h : lengthFits window 0x0F p = false) :
    cmdNozzleWrite p = refuse .malformed := by
  match p, h with
  | [], _ | [_], _ => rfl
  | g :: presence :: l, h =>
    have hnone : readFields presence l = none := by
      cases hf : readFields presence l with
      | none => rfl
      | some f =>
        have hl : (l.length + 2 == 2 + ((if presence.getLsbD 0 then 1 else 0) + (if presence.getLsbD 1 then 2 else 0)
          + (if presence.getLsbD 2 then 2 else 0) + if presence.getLsbD 3 then 4 else 0)) = false := h
        exact absurd (readFields_length hf ▸ Nat.add_comm _ _) (beq_eq_false_iff_ne.1 hl)
    funext s
    simp only [cmdNozzleWrite, hnone]

end

/-! ### Every command -/

theorem length_ne_of_unfit {window : Option Window} {kind : Byte} {p : List Byte} {n : Nat}
    (h : lengthFits window kind p = false) (hn : lengthFits window kind p = (p.length == n)) : p.length ≠ n :=
  beq_eq_false_iff_ne.1 (hn.symm.trans h)

/-- A command whose LENGTH is not its layout's is refused with MALFORMED (R169, R186). -/
theorem commandOf_malformed {s : State} {n : Nat} {p : List Byte} (h1 : 1 ≤ n) (h20 : n ≤ 0x14)
    (h : lengthFits s.link.window (BitVec.ofNat 8 n) p = false) :
    commandOf (BitVec.ofNat 8 n) p s = refuse .malformed s := by
  match n, h1, h20, h with
  | 0x01, _, _, h => exact congrFun (malformed_of_payload (cmd := cmdPoll) (fun _ _ => rfl) (length_ne_of_unfit h rfl)) s
  | 0x02, _, _, h => exact congrFun (malformed_of_payload (cmd := cmdNotices) (fun _ _ => rfl) (length_ne_of_unfit h rfl)) s
  | 0x03, _, _, h => exact congrFun (malformed_of_payload (cmd := cmdRearm) (fun _ _ => rfl) (length_ne_of_unfit h rfl)) s
  | 0x04, _, _, h => exact congrFun (malformed_of_payload (cmd := cmdGoRun) (fun _ _ => rfl) (length_ne_of_unfit h rfl)) s
  | 0x05, _, _, h => exact congrFun (malformed_of_payload (cmd := cmdGoStandby) (fun _ _ => rfl) (length_ne_of_unfit h rfl)) s
  | 0x06, _, _, h => exact congrFun (cmdPurge_malformed (length_ne_of_unfit h rfl)) s
  | 0x07, _, _, h => exact congrFun (malformed_of_payload (cmd := cmdRestart) (fun _ _ => rfl) (length_ne_of_unfit h rfl)) s
  | 0x08, _, _, h => exact congrFun (malformed_of_payload (cmd := cmdClearCold) (fun _ _ => rfl) (length_ne_of_unfit h rfl)) s
  | 0x09, _, _, h => exact congrFun (cmdDry_malformed (length_ne_of_unfit h rfl)) s
  | 0x0A, _, _, h => exact congrFun (cmdWindow_malformed (length_ne_of_unfit h rfl)) s
  | 0x0B, _, _, h => exact cmdPut_malformed h
  | 0x0C, _, _, h => exact congrFun (malformed_of_payload (cmd := cmdGet) (fun _ _ => rfl) (length_ne_of_unfit h rfl)) s
  | 0x0D, _, _, h => exact congrFun (cmdSwap_malformed (length_ne_of_unfit h rfl)) s
  | 0x0E, _, _, h => exact congrFun (cmdNozzleRead_malformed (length_ne_of_unfit h rfl)) s
  | 0x0F, _, _, h => exact congrFun (cmdNozzleWrite_malformed h) s
  | 0x10, _, _, h => exact congrFun (cmdTest_malformed (length_ne_of_unfit h rfl)) s
  | 0x11, _, _, h => exact congrFun (cmdLane_malformed (length_ne_of_unfit h rfl)) s
  | 0x12, _, _, h => exact congrFun (cmdSet_malformed (length_ne_of_unfit h rfl)) s
  | 0x13, _, _, h => exact congrFun (cmdQuery_malformed (length_ne_of_unfit h rfl)) s
  | 0x14, _, _, h => exact congrFun (cmdTally_malformed (length_ne_of_unfit h rfl)) s
  | n + 21, _, h20, _ => omega

/-- A command that is heard acts and is answered in its own event (R168, R170). -/
theorem exec_frame_heard {s : State} {addr kind : Byte} {p : List Byte} (hs : Heard s addr) (hm : kind.msb = false)
    (hl : p.length ≤ 200) : exec (.unknownCommand addr kind p) s
      = .next (giveReply kind (commandOf kind p s).2 (commandOf kind p s).1) := by
  rw [exec_frame hs.1 hl hm, answer_of_reply (route_heard s hs)]

theorem exec_frame_refused {s : State} {addr kind : Byte} {p : List Byte} {r : Result} (hs : Heard s addr)
    (hm : kind.msb = false) (hl : p.length ≤ 200) (h : commandOf kind p s = refuse r s) :
    exec (.unknownCommand addr kind p) s = .next (replied kind r [] s) := by
  rw [exec_frame_heard hs hm hl, h]
  rfl

/-! ### Codes outside their tables -/

section
variable (s : State) {code : Byte}

theorem cmdDry_unlisted (hc : 2 ≤ code.toNat) : cmdDry [code] s = refuse .outOfRange s := by
  have hne : ∀ k : Byte, k.toNat < 2 → code ≠ k := by bv_omega
  simp [cmdDry, hne]

theorem cmdSwap_unlisted (v1 v0 : Byte) (hc : 3 ≤ code.toNat) : cmdSwap [code, v1, v0] s = refuse .outOfRange s := by
  have hne : ∀ k : Byte, k.toNat < 3 → code ≠ k := by bv_omega
  simp [cmdSwap, hne]

theorem cmdSet_unlisted (v4 v3 v2 v1 v0 : Byte) (hc : code.toNat = 0 ∨ 14 ≤ code.toNat) :
    cmdSet [code, v4, v3, v2, v1, v0] s = refuse .outOfRange s := by
  have hne : ∀ k : Byte, 1 ≤ k.toNat → k.toNat < 14 → code ≠ k := by bv_omega
  simp [cmdSet, hne]

theorem cmdWindow_unlisted (v4 v3 v2 v1 v0 : Byte) (hc : 4 ≤ code.toNat) :
    cmdWindow [code, v4, v3, v2, v1, v0] s = refuse .outOfRange s := by
  have hne : ∀ k : Byte, k.toNat < 4 → code ≠ k := by bv_omega
  simp [cmdWindow, tableOf, hne]

end

/-- Settles O38: each command checks its LENGTH first, and then its code field against its table. -/
theorem wrongLengthsAreMalformed : Obligations.WrongLengthsAreMalformed := by
  intro s hs a
  refine ⟨fun kind p hl h1 h20 hfit => ?_, fun code v4 v3 v2 v1 v0 => ⟨fun hc => ?_, fun hc => ?_, fun hc => ?_,
    fun hc => ?_⟩⟩
  · have hm : kind.msb = false := BitVec.msb_eq_false_iff_two_mul_lt.2 (by omega)
    have hmalformed := commandOf_malformed (s := s) (p := p) h1 h20
    rw [show BitVec.ofNat 8 kind.toNat = kind by simp] at hmalformed
    exact exec_frame_refused hs hm hl (hmalformed hfit)
  · exact exec_frame_refused hs rfl (by simp) (cmdDry_unlisted s hc)
  · exact exec_frame_refused hs rfl (by simp) (cmdSwap_unlisted s v1 v0 hc)
  · exact exec_frame_refused hs rfl (by simp) (cmdSet_unlisted s v4 v3 v2 v1 v0 hc)
  · refine (hostCommand_heard s 0x0A false (cmdWindow _) hs (by simp)).trans ?_
    rw [cmdWindow_unlisted s v4 v3 v2 v1 v0 hc]
    rfl

end Sys2Proof.Machine
end

section
/-! POLL, NOTICES, REARM and the setting of a notice (O41): R173 to R178. -/

namespace Sys2Proof.Machine

/-! ### Fields of a reply -/

theorem num32_bytes {n : Nat} (h : n < 4294967296) : num32 (BitVec.ofNat 8 (n / 65536 / 256))
    (BitVec.ofNat 8 (n / 65536)) (BitVec.ofNat 8 (n / 256)) (BitVec.ofNat 8 n) = n := by
  rw [num32, num16_bytes (by omega)]
  simp only [num16, BitVec.toNat_ofNat]
  omega

theorem flagsNat_lt (bits : List Bool) : flagsNat bits < 2 ^ bits.length := by
  induction bits with
  | nil => decide
  | cons b bits ih =>
    have hb := b.toNat_le
    change b.toNat + 2 * flagsNat bits < 2 ^ (bits.length + 1)
    omega

theorem testBit_flagsNat (bits : List Bool) (i : Nat) : (flagsNat bits).testBit i = bits.getD i false := by
  induction bits generalizing i with
  | nil => simp [flagsNat]
  | cons b bits ih =>
    change (b.toNat + 2 * flagsNat bits).testBit i = _
    cases i with
    | zero => cases b <;> simp [Nat.testBit_zero]
    | succ i =>
      rw [Nat.testBit_succ, List.getD_cons_succ, ← ih i]
      congr 1
      have hb := b.toNat_le
      omega

theorem bitsByte_toNat {bits : List Bool} (h : bits.length ≤ 8) : (bitsByte bits).toNat = flagsNat bits :=
  toNat_byte ((flagsNat_lt bits).trans_le (Nat.pow_le_pow_right (by decide) h))

theorem getLsbD_bitsByte {bits : List Bool} (h : bits.length ≤ 8) (i : Nat) :
    (bitsByte bits).getLsbD i = bits.getD i false := by
  rw [← BitVec.testBit_toNat, bitsByte_toNat h, testBit_flagsNat]

theorem bitsByte_lt {bits : List Bool} (h : bits.length ≤ 8) : (bitsByte bits).toNat < 2 ^ bits.length :=
  bitsByte_toNat h ▸ flagsNat_lt bits

/-! ### The POLL record -/

/-- A bus's driver is B exactly where its bit is set. -/
theorem getLsbD_lanes (s : State) (h : Chute) :
    (bitsByte ([0, 1, 2, 3].map fun h => (s.busOf h).active == .b)).getLsbD h.val = true ↔ (s.busOf h).active = .b := by
  rw [getLsbD_bitsByte (by simp)]
  fin_cases h <;> simp

theorem testBit_pendingFlags (n : NoticeTable) (k : NoticeKind) :
    (flagsNat (pendingFlags n)).testBit k.place = (n.record k).pending := by
  rw [testBit_flagsNat]
  cases k <;> rfl

theorem pendingFlags_lt (n : NoticeTable) : flagsNat (pendingFlags n) < 2048 :=
  (flagsNat_lt _).trans_eq (by rw [pendingFlags, List.length_map]; rfl)

/-! ### The setting of a notice -/

theorem getLsbD_chuteMask (event : Option Chute) (h : Chute) :
    (chuteMask event).getLsbD h.val = decide (event = some h) := by
  cases event with
  | none => simp [chuteMask]
  | some k => simp [chuteMask, Fin.ext_iff, eq_comm]

/-- A set notice calls as its records stand after it (R174, R176). -/
theorem notice_set (n : NoticeTable) (mask : BitVec 11) (k : NoticeKind) (event : Option Chute) :
    let u := n.set mask k event
    (u.record k).pending = true ∧ (u.record k).count = min ((n.record k).count + 1) 255 ∧
    (∀ h : Chute, (u.record k).mask.getLsbD h.val = ((n.record k).mask.getLsbD h.val || decide (event = some h))) ∧
    (∀ k', k' ≠ k → u.record k' = n.record k') ∧ u.armed = n.armed ∧
    u.attn = (n.armed && noticeKinds.any fun k => (u.record k).pending && !mask.getLsbD k.place) := by
  intro u
  have hrecord : u.record k = _ := record_set_same n mask k event
  refine ⟨congrArg NoticeRecord.pending hrecord, congrArg NoticeRecord.count hrecord, fun h => ?_,
    fun k' => record_set_other n mask event, rfl, rfl⟩
  rw [hrecord, BitVec.getLsbD_or, getLsbD_chuteMask]

/-! ### NOTICES and REARM -/

section
variable {s : State} {addr : Byte}

theorem noticeBytes_eq (r : NoticeRecord) :
    noticeBytes r = [if r.pending then 1 else 0, BitVec.ofNat 8 r.count, 0#4 ++ r.mask] := by
  have hmask : r.mask.setWidth 8 = (0#4 ++ r.mask : Byte) := BitVec.setWidth_eq_append (by decide)
  rw [noticeBytes, hmask, bit]

theorem notices_heard (h : Heard s addr) : exec (.notices addr []) s = .next (replied 0x02 .done
    (noticeKinds.flatMap fun k =>
      let r := s.notices.record k
      [if r.pending then 1 else 0, BitVec.ofNat 8 r.count, 0#4 ++ r.mask])
    { s with
      link := { s.link with window := none }
      notices := { s.notices with records := [], attn := false } }) := by
  have hattn : (s.notices.armed && false) = false := Bool.and_false _
  refine (hostCommand_heard s 0x02 true (cmdNotices []) h (by simp)).trans ?_
  simp only [← noticeBytes_eq]
  rw [← hattn]
  rfl

theorem rearm_heard (h : Heard s addr) : exec (.rearm addr []) s = .next (replied 0x03 .done []
    { s with
      link := { s.link with window := none }
      notices := { s.notices with
        armed := true
        attn := noticeKinds.any fun k => (s.notices.record k).pending && !s.settings.noticeMask.getLsbD k.place } }) :=
  hostCommand_heard s 0x03 false (cmdRearm []) h (by simp)

/-! ### POLL -/

theorem pollRecord_eq (s : State) (asking : Bool) :
    pollRecord s asking =
      let pending := flagsNat (pendingFlags s.notices)
      let swap := (s.banks.pendingSwap.map (·.toNat)).getD 0
      let line := s.clk.line.toNat
      let now := s.clk.now.toNat
      [opCode s.ctl.op, bitsByte [s.ctl.cold, s.ctl.dry, s.ctl.estop, s.ctl.airlow, asking],
        BitVec.ofNat 8 (pending / 256), BitVec.ofNat 8 pending,
        bitsByte ([0, 1, 2, 3].map fun h => (s.busOf h).active == .b),
        bitsByte ((s.banks.data s.banks.working).loaded.list ++ (s.banks.data s.banks.staging).loaded.list),
        bit s.banks.pendingSwap.isSome, BitVec.ofNat 8 (swap / 256), BitVec.ofNat 8 swap,
        BitVec.ofNat 8 (line / 256), BitVec.ofNat 8 line,
        BitVec.ofNat 8 (now / 65536 / 256), BitVec.ofNat 8 (now / 65536), BitVec.ofNat 8 (now / 256),
        BitVec.ofNat 8 now] := rfl

theorem poll_heard (h : Heard s addr) : exec (.poll addr []) s = .next
    (replied 0x01 .done (pollRecord s s.notices.attn)
      (if s.notices.attn then { s with notices := { s.notices with armed := false, attn := false } } else s)) := by
  refine (hostCommand_heard s 0x01 true (cmdPoll []) h (by simp)).trans ?_
  cases hattn : s.notices.attn <;> simp only [cmdPoll, hattn] <;> rfl

/-- The line field is 0 without a pending swap, and that of the swap with one (R173). -/
theorem pendingSwap_bytes {swap : Option Line} (n : Nat) (hn : n = (swap.map (·.toNat)).getD 0) :
    (swap = none → bit swap.isSome = 0 ∧ num16 (BitVec.ofNat 8 (n / 256)) (BitVec.ofNat 8 n) = 0) ∧
      ∀ l, swap = some l → bit swap.isSome = 1 ∧ num16 (BitVec.ofNat 8 (n / 256)) (BitVec.ofNat 8 n) = l.toNat := by
  subst hn
  refine ⟨fun h => ?_, fun l h => ?_⟩
  · subst h; exact ⟨rfl, rfl⟩
  · subst h; exact ⟨rfl, num16_bytes l.isLt⟩

end

/-- Settles O41: the fields of the POLL record, the two commands that judge ATTN anew, and the setting of a notice. -/
theorem pollNoticesAndRearm : Obligations.PollNoticesAndRearm := by
  refine ⟨fun s addr hs => ⟨?_, notices_heard hs, rearm_heard hs⟩, notice_set⟩
  have hpoll := poll_heard hs
  rw [pollRecord_eq] at hpoll
  have hflags : ∀ {bits : List Bool}, bits.length = 5 → ∀ i, (bitsByte bits).getLsbD i = bits.getD i false :=
    fun h => getLsbD_bitsByte (by omega)
  obtain ⟨hnoswap, hswap⟩ := pendingSwap_bytes (swap := s.banks.pendingSwap) _ rfl
  have hpending := num16_bytes (n := flagsNat (pendingFlags s.notices)) ((pendingFlags_lt _).trans (by decide))
  have hloaded := getLsbD_bitsByte
    (bits := (s.banks.data s.banks.working).loaded.list ++ (s.banks.data s.banks.staging).loaded.list) (Nat.le_refl 8)
  exact ⟨_, _, _, _, _, _, _, _, _, _, _, _, _, _, _, _, rfl, hpoll, by cases s.ctl.op <;> rfl,
    hflags rfl 0, hflags rfl 1, hflags rfl 2, hflags rfl 3, hflags rfl 4, bitsByte_lt (by simp),
    fun k => by rw [hpending, testBit_pendingFlags], by rw [hpending]; exact pendingFlags_lt _,
    getLsbD_lanes s, bitsByte_lt (by simp),
    ⟨hloaded 0, hloaded 1, hloaded 2, hloaded 3⟩, ⟨hloaded 4, hloaded 5, hloaded 6, hloaded 7⟩,
    hnoswap, hswap, num16_bytes s.clk.line.isLt, num32_bytes s.clk.now.isLt⟩

end Sys2Proof.Machine
end

section
/-! SET of GROUP ADDRESS and of NOTICE MASK, and QUERY (O50): R171, R172, R176. -/

namespace Sys2Proof.Machine

section
variable {s : State} {addr c v3 v2 v1 v0 id : Byte}

theorem groupOk_iff (v : Nat) : groupOk v = true ↔ v = 0 ∨ (33 ≤ v ∧ v ≤ 62) := by
  simp [groupOk]

theorem setGroupAddress_heard (h : Heard s addr) : exec (.setGroupAddress addr [c, v3, v2, v1, v0]) s = .next
    (if num32 v3 v2 v1 v0 = 0 ∨ (33 ≤ num32 v3 v2 v1 v0 ∧ num32 v3 v2 v1 v0 ≤ 62) then
      replied 0x12 .done (12 :: 0 :: bytes32 (num32 v3 v2 v1 v0))
        { s with
          settings := { s.settings with group := BitVec.ofNat 8 (num32 v3 v2 v1 v0) }
          link := { s.link with window := none } }
    else replied 0x12 .outOfRange [] s) := by
  refine (hostCommand_heard s 0x12 false (cmdSetGroupAddress _) h (by simp)).trans (congrArg _ ?_)
  simp only [cmdSetGroupAddress, withValue, groupOk_iff]
  split <;> rfl

/-- A mask of eleven kinds is all of a value that names a kind (R171). -/
theorem getLsbD_noticeMask (v : Nat) (k : NoticeKind) : (BitVec.ofNat 11 v).getLsbD k.place = v.testBit k.place := by
  have hplace : k.place < 11 := by cases k <;> decide
  rw [BitVec.getLsbD_ofNat, decide_eq_true hplace, Bool.true_and]

theorem setNoticeMask_heard (h : Heard s addr) : exec (.setNoticeMask addr [c, v3, v2, v1, v0]) s = .next
    (replied 0x12 .done (13 :: 0 :: bytes32 (num32 v3 v2 v1 v0 % 2048)) { s with
      settings := { s.settings with noticeMask := BitVec.ofNat 11 (num32 v3 v2 v1 v0) }
      notices := { s.notices with attn := s.notices.armed && noticeKinds.any fun k =>
        (s.notices.record k).pending && !(num32 v3 v2 v1 v0).testBit k.place }
      link := { s.link with window := none } }) := by
  refine (hostCommand_heard s 0x12 false (cmdSetNoticeMask _) h (by simp)).trans ?_
  simp only [← getLsbD_noticeMask]
  rfl

/-! ### QUERY -/

theorem query_refused (h : Heard s addr) (hnone : queryValue s id c = none) :
    exec (.query addr [id, c]) s = .next (replied 0x13 .outOfRange [] s) := by
  refine (hostCommand_heard s 0x13 true (cmdQuery _) h (by simp)).trans ?_
  simp only [cmdQuery, hnone]
  rfl

theorem query_answered {chute : Byte} {n : Nat} (h : Heard s addr) (hsome : queryValue s id c = some (chute, n)) :
    exec (.query addr [id, c]) s
      = .next (replied 0x13 .done (id :: chute :: bytes32 n) { s with link := { s.link with window := none } }) := by
  refine (hostCommand_heard s 0x13 true (cmdQuery _) h (by simp)).trans ?_
  simp only [cmdQuery, hsome]
  rfl

theorem queryValue_valveGap (s : State) {h : Chute} (hc : c.toNat = h.val) :
    queryValue s 8 c = some (c, s.settings.valveGap.get h) := by
  simp [queryValue, chuteByte_of_val hc]

theorem queryValue_valveGap_unlisted (s : State) (hc : 4 ≤ c.toNat) : queryValue s 8 c = none := by
  simp [queryValue, chuteByte_of_large hc]

/-- The settings without a chute answer the chute byte 0 (notes/assumptions/17). -/
theorem queryValue_of_settingOf {n : Nat} (hid : id ≠ 8) (hn : settingOf s id = some n) :
    queryValue s id c = some (0, n) := by
  rw [queryValue, if_neg hid, hn, Option.map_some]

theorem settingOf_unlisted (s : State) (hid : id.toNat = 0 ∨ 14 ≤ id.toNat) : settingOf s id = none := by
  unfold settingOf
  split
  case h_13 => rfl
  all_goals omega

theorem queryValue_unlisted (s : State) (hid : id = 0 ∨ 14 ≤ id.toNat) : queryValue s id c = none := by
  have hvalue : id.toNat = 0 ∨ 14 ≤ id.toNat := hid.imp_left (congrArg BitVec.toNat)
  have hgap : id ≠ 8 := by bv_omega
  rw [queryValue, if_neg hgap, settingOf_unlisted s hvalue, Option.map_none]

theorem queryValue_listed {n : Nat} (h : (id, n) ∈ [((1 : Byte), s.settings.airTrim), (2, s.clk.period),
    (3, s.settings.maxAge), (4, s.settings.leadMin), (5, s.settings.widthMin), (6, s.settings.widthMax),
    (7, s.settings.widthCap), (9, s.settings.replyWait), (10, s.settings.missLimit), (11, s.settings.windDownLimit),
    (12, s.settings.group.toNat), (13, s.settings.noticeMask.toNat)]) : queryValue s id c = some (0, n) := by
  simp only [List.mem_cons, List.not_mem_nil, or_false, Prod.mk.injEq] at h
  rcases h with ⟨rfl, rfl⟩ | ⟨rfl, rfl⟩ | ⟨rfl, rfl⟩ | ⟨rfl, rfl⟩ | ⟨rfl, rfl⟩ | ⟨rfl, rfl⟩ | ⟨rfl, rfl⟩ | ⟨rfl, rfl⟩
    | ⟨rfl, rfl⟩ | ⟨rfl, rfl⟩ | ⟨rfl, rfl⟩ | ⟨rfl, rfl⟩
  all_goals exact queryValue_of_settingOf (by decide) rfl

end

/-- Settles O50: each SET and QUERY is heard, and its value is the stored one. -/
theorem groupMaskAndQuery : Obligations.GroupMaskAndQuery := by
  intro s addr c v3 v2 v1 v0 hs v closed
  refine ⟨setGroupAddress_heard hs, setNoticeMask_heard hs, fun id n hmem => query_answered hs (queryValue_listed hmem),
    fun h hc => query_answered hs (queryValue_valveGap s hc), fun hc => query_refused hs (queryValue_valveGap_unlisted s hc),
    fun id hid => query_refused hs (queryValue_unlisted s hid)⟩

end Sys2Proof.Machine
end

section
/-! The counters (R180) and TALLY (O51): R30, R180, R182, R186. -/

namespace Sys2Proof.Machine

/-! ### Counters (R180) -/

/-- A counter stops at 4,294,967,295. -/
theorem satAdd_eq (c n : Nat) : satAdd c n = min (c + n) 4294967295 := rfl

/-- A counter that is raised, and every other one of its sighting record. -/
theorem SightingTally.get_add (t : SightingTally) (c d : SightingCounter) (n : Nat) :
    (t.add c n).get d = if d = c then satAdd (t.get c) n else t.get d := by
  cases c <;> cases d <;> rfl

/-- A counter that is raised, and every other one of its chute record. -/
theorem ChuteTally.get_add (t : ChuteTally) (c d : ChuteCounter) (n : Nat) :
    (t.add c n).get d = if d = c then satAdd (t.get c) n else t.get d := by
  cases c <;> cases d <;> rfl

theorem sighting_countSighting_same (t : TallyTable) (h : Chute) (k : Nat) (c : SightingCounter) :
    (t.countSighting h k c).sighting h k = (t.sighting h k).add c 1 :=
  sighting_setSighting_same t h k _

theorem chutes_countChute_same (t : TallyTable) (h : Chute) (c : ChuteCounter) (n : Nat) :
    (t.countChute h c n).chutes.get h = (t.chutes.get h).add c n :=
  PerChute.get_set_same _ h _

theorem chutes_countChute_other (t : TallyTable) {h h' : Chute} (hh : h' ≠ h) (c : ChuteCounter) (n : Nat) :
    (t.countChute h c n).chutes.get h' = t.chutes.get h' :=
  PerChute.get_set_other _ h h' _ hh

/-! ### The record that a TALLY names (R182) -/

section
variable {s : State} {addr c sel clear : Byte} {h : Chute} {n : TallyName}

theorem tallyName_class (hc : c.toNat = h.val) (hsel : sel.toNat ≤ 15) :
    tallyName c sel = some (.sighting h sel.toNat) := by
  rw [tallyName, if_pos hsel, chuteByte_of_val hc, Option.map_some]

theorem tallyName_chute (hc : c.toNat = h.val) : tallyName c 16 = some (.chute h) := by
  simp [tallyName, chuteByte_of_val hc]

theorem tallyName_link (c : Byte) : tallyName c 17 = some .link := rfl

theorem tallyName_unlisted (hname : 18 ≤ sel.toNat ∨ (4 ≤ c.toNat ∧ sel.toNat ≤ 16)) : tallyName c sel = none := by
  obtain hsel | ⟨hc, hsel⟩ := hname
  · rw [tallyName, if_neg (by omega), if_neg (by omega), if_neg (by omega)]
  · rw [tallyName, chuteByte_of_large hc]
    by_cases hclass : sel.toNat ≤ 15
    · rw [if_pos hclass, Option.map_none]
    · rw [if_neg hclass, if_pos (by omega), Option.map_none]

/-! ### TALLY -/

/-- A clear has no part in anything but the tally table. -/
theorem clearTally_eq (n : TallyName) (s : State) : clearTally n s = { s with tally := (clearTally n s).tally } := by
  cases n <;> rfl

/-- A TALLY that names a record answers with it, clears it if it is told to, and closes the window (R30, R182). -/
theorem tally_answered (hs : Heard s addr) (hclear : clear.toNat ≤ 1) (hn : tallyName c sel = some n) :
    exec (.tally addr [c, sel, clear]) s = .next (replied 0x14 .done ([c, sel, clear] ++ tallyBytes s n)
      { s with
        link := { s.link with window := none }
        tally := if clear = 1 then (clearTally n s).tally else s.tally }) := by
  refine (hostCommand_heard s 0x14 true (cmdTally _) hs (by simp)).trans (congrArg _ ?_)
  simp only [cmdTally, if_neg (Nat.not_lt.2 hclear), hn]
  split
  · rw [clearTally_eq]
    rfl
  · rfl

/-- A TALLY whose clear code is above 1, or that names no record, is refused (R186). -/
theorem tally_refused (hs : Heard s addr) (hbad : 1 < clear.toNat ∨ tallyName c sel = none) :
    exec (.tally addr [c, sel, clear]) s = .next (replied 0x14 .outOfRange [] s) := by
  refine (hostCommand_heard s 0x14 true (cmdTally _) hs (by simp)).trans (congrArg _ ?_)
  by_cases hclear : 1 < clear.toNat
  · simp only [cmdTally, if_pos hclear]
    rfl
  · simp only [cmdTally, if_neg hclear, hbad.resolve_left hclear]
    rfl

end

/-- Settles O51: TALLY by the record it names, and counting by what it leaves of the counters read one by one. -/
theorem tallyReadsAndClears : Obligations.TallyReadsAndClears := by
  refine ⟨?_, fun t h k counter hk => ?_, fun t h counter n => ?_⟩
  · intro s addr c sel clear hs closed
    refine ⟨fun hclear => ⟨fun h hc => ⟨fun hsel => tally_answered hs hclear (tallyName_class hc hsel), ?_⟩, ?_⟩,
      fun hbad => tally_refused hs (hbad.imp_right tallyName_unlisted)⟩
    · rintro rfl
      exact tally_answered hs hclear (tallyName_chute hc)
    · rintro rfl
      exact tally_answered hs hclear (tallyName_link c)
  · refine ⟨?_, fun other hne => ?_, fun h' k' hk' hne => sighting_setSighting_other t _ hk hk' hne, rfl, rfl⟩
    · rw [sighting_countSighting_same, SightingTally.get_add, if_pos rfl, satAdd_eq]
    · rw [sighting_countSighting_same, SightingTally.get_add, if_neg hne]
  · refine ⟨?_, fun other hne => ?_, fun h' hne => chutes_countChute_other t hne counter n, rfl, rfl⟩
    · rw [chutes_countChute_same, ChuteTally.get_add, if_pos rfl, satAdd_eq]
    · rw [chutes_countChute_same, ChuteTally.get_add, if_neg hne]

end Sys2Proof.Machine
end

section
/-! The balance of the sighting records (O56): R12, R180 to R183. The pending sightings are a list of chutes and
classes; counting an outcome settles one of them, counting SEEN adds one, and moving a sighting between intake, planner
and held list only permutes them. -/

namespace Sys2Proof.Machine

/-! ### One record -/

/-- A record without a saturated counter balances against a number of pending sightings (R183). -/
def SightingTally.Balances (t : SightingTally) (n : Nat) : Prop := t.unsaturated → t.seen = t.outcomes + n

/-- The eight outcomes (11.1); the others are SEEN, DEFAULTED and CLIPPED. -/
def SightingCounter.IsOutcome (c : SightingCounter) : Prop := c ≠ .seen ∧ c ≠ .defaulted ∧ c ≠ .clipped

namespace SightingTally
variable {t : SightingTally} {n : Nat}

theorem unsaturated_iff : t.unsaturated ↔ ∀ c, t.get c < 4294967295 := by
  refine ⟨fun h c => h _ ?_, fun h n hn => ?_⟩
  · cases c <;> simp [list, get]
  · simp only [list, List.mem_cons, List.not_mem_nil, or_false] at hn
    obtain rfl | rfl | rfl | rfl | rfl | rfl | rfl | rfl | rfl | rfl | rfl := hn
    exacts [h .seen, h .planned, h .merged, h .passed, h .blind, h .untimely, h .crowded, h .dismissed, h .abandoned,
      h .defaulted, h .clipped]

/-- A counter that has not saturated has risen by the whole number. -/
theorem satAdd_of_unsaturated {c : SightingCounter} (h : (t.add c n).unsaturated) :
    satAdd (t.get c) n = t.get c + n := by
  have hc := unsaturated_iff.1 h c
  rw [get_add, if_pos rfl, satAdd_eq] at hc
  rw [satAdd_eq]
  omega

/-- No counting takes a counter out of saturation. -/
theorem unsaturated_of_add {c : SightingCounter} (h : (t.add c n).unsaturated) : t.unsaturated := by
  refine unsaturated_iff.2 fun d => ?_
  have hd := unsaturated_iff.1 h d
  rw [get_add] at hd
  split at hd
  · subst d
    rw [satAdd_of_unsaturated h] at hd
    omega
  · exact hd

theorem Balances.seen (h : t.Balances n) : (t.add .seen 1).Balances (n + 1) := fun hu =>
  calc satAdd t.seen 1
    _ = t.seen + 1 := satAdd_of_unsaturated hu
    _ = t.outcomes + (n + 1) := by rw [h (unsaturated_of_add hu), Nat.add_assoc]

theorem outcomes_add {c : SightingCounter} (hc : c.IsOutcome) (h : (t.add c n).unsaturated) :
    (t.add c n).outcomes = t.outcomes + n := by
  obtain ⟨hseen, hdefaulted, hclipped⟩ := hc
  have hc := satAdd_of_unsaturated h
  cases c with
  | seen => exact absurd rfl hseen
  | defaulted => exact absurd rfl hdefaulted
  | clipped => exact absurd rfl hclipped
  | _ =>
    simp only [get] at hc
    simp only [add, outcomes, hc]
    omega

theorem seen_add {c : SightingCounter} (hc : c ≠ .seen) : (t.add c n).seen = t.seen :=
  (get_add t c .seen n).trans (if_neg hc.symm)

/-- An outcome counted settles a pending sighting. -/
theorem Balances.outcome {c : SightingCounter} (hc : c.IsOutcome) (h : t.Balances (n + 1)) :
    (t.add c 1).Balances n := by
  intro hu
  rw [outcomes_add hc hu, seen_add hc.1, h (unsaturated_of_add hu), Nat.add_right_comm, Nat.add_assoc]

/-- DEFAULTED and CLIPPED are no part of the balance. -/
theorem Balances.mark {c : SightingCounter} (hc : c = .defaulted ∨ c = .clipped) (h : t.Balances n) :
    (t.add c 1).Balances n := by
  intro hu
  obtain rfl | rfl := hc
  all_goals exact h (unsaturated_of_add hu)

end SightingTally

/-! ### The tally table and a list of pending sightings -/

/-- Every record balances against the sightings of its chute and class in a list of pending ones, whose classes are
classes (R12, R183). -/
def TallyTable.Balances (t : TallyTable) (l : List (Chute × Nat)) : Prop :=
  (∀ p ∈ l, p.2 < 16) ∧ ∀ (h : Chute) (k : Nat), k < 16 → (t.sighting h k).Balances (l.count (h, k))

namespace TallyTable
variable {t u : TallyTable} {h : Chute} {k : Nat} {l l' : List (Chute × Nat)} {c : SightingCounter}

theorem Balances.perm (hb : t.Balances l) (hl : l'.Perm l) : t.Balances l' := by
  obtain ⟨hclass, hbal⟩ := hb
  exact ⟨fun p hp => hclass p (hl.mem_iff.1 hp), fun h k hk => hl.count_eq (h, k) ▸ hbal h k hk⟩

/-- With every counter 0 and nothing pending. -/
theorem balances_zero : TallyTable.zero.Balances [] := ⟨nofun, fun _ _ _ _ => rfl⟩

/-- One record replaced, while the other records keep their pending sightings. -/
theorem Balances.setSighting (hb : t.Balances l) (hk : k < 16) {r : SightingTally} (hr : r.Balances (l'.count (h, k)))
    (hl' : ∀ p ∈ l', p.2 < 16) (hothers : ∀ p, p ≠ (h, k) → l'.count p = l.count p) :
    (t.setSighting h k r).Balances l' := by
  obtain ⟨-, hbal⟩ := hb
  refine ⟨hl', fun h' k' hk' => ?_⟩
  by_cases hp : h' = h ∧ k' = k
  · obtain ⟨rfl, rfl⟩ := hp
    rwa [sighting_setSighting_same]
  · rw [sighting_setSighting_other t r hk hk' hp, hothers (h', k') (by simpa using hp)]
    exact hbal h' k' hk'

/-- A sighting that is seen is pending (R13). -/
theorem Balances.seen (hb : t.Balances l) (hk : k < 16) : (t.countSighting h k .seen).Balances ((h, k) :: l) := by
  obtain ⟨hclass, hbal⟩ := id hb
  refine hb.setSighting hk ?_ (by simpa using ⟨hk, fun a b => hclass (a, b)⟩) fun _ hp =>
    List.count_cons_of_ne hp.symm
  rw [List.count_cons_self]
  exact (hbal h k hk).seen

/-- A sighting whose outcome is counted is pending no more (R58). -/
theorem Balances.outcome (hb : t.Balances ((h, k) :: l)) (hc : c.IsOutcome) : (t.countSighting h k c).Balances l := by
  obtain ⟨hclass, hbal⟩ := id hb
  obtain ⟨hk, hl⟩ := List.forall_mem_cons.1 hclass
  refine hb.setSighting hk (.outcome hc ?_) hl fun _ hp => (List.count_cons_of_ne hp.symm).symm
  rw [← List.count_cons_self]
  exact hbal h k hk

theorem Balances.mark (hb : t.Balances l) (hk : k < 16) (hc : c = .defaulted ∨ c = .clipped) :
    (t.countSighting h k c).Balances l :=
  hb.setSighting hk ((hb.2 h k hk).mark hc) hb.1 fun _ _ => rfl

/-- Sightings given up one after another, each counted ABANDONED (R16, R91). -/
theorem Balances.abandon {α : Type} {chute : α → Chute} {cls : α → Nat} (m : List α)
    (hb : t.Balances (m.map (fun x => (chute x, cls x)) ++ l)) :
    (m.foldl (fun t x => t.countSighting (chute x) (cls x) .abandoned) t).Balances l := by
  induction m generalizing t with
  | nil => exact hb
  | cons x m ih => exact ih (hb.outcome ⟨nofun, nofun, nofun⟩)

/-- A record cleared: SEEN becomes the number of its pending sightings (R182). -/
theorem Balances.clear (hb : t.Balances l) (hk : k < 16) :
    (t.setSighting h k { SightingTally.zero with seen := l.count (h, k) }).Balances l :=
  hb.setSighting hk (fun _ => by simp [SightingTally.outcomes, SightingTally.zero]) hb.1 fun _ _ => rfl

end TallyTable

/-! ### The pending sightings of a state -/

/-- The chute and class of a sighting. -/
def Sighting.kind (g : Sighting) : Chute × Nat := (g.chute, g.cls)

/-- The chute and class of a held entry. -/
def HeldEntry.kind (e : HeldEntry) : Chute × Nat := (e.chute, e.cls)

/-- The chutes and classes of the pending sightings: in the intake, in flight, and held (R182). -/
def State.pendingKinds (s : State) : List (Chute × Nat) :=
  s.port.intake.map Sighting.kind ++ ((inFlightSighting s).map Sighting.kind ++ s.verdicts.held.map HeldEntry.kind)

/-- The state's tallies balance with one more sighting pending, which an event has taken up and not yet settled. -/
def BalancesWith (p : Chute × Nat) (s : State) : Prop := s.tally.Balances (p :: s.pendingKinds)

theorem count_pendingKinds (s : State) (h : Chute) (k : Nat) : s.pendingKinds.count (h, k) = pendingCount s h k := by
  have hsighting : ∀ l : List Sighting, (l.map Sighting.kind).count (h, k) = l.countP (Sighting.isOf h k) := fun l => by
    rw [List.count, List.countP_map]
    rfl
  have hheld : ∀ l : List HeldEntry, (l.map HeldEntry.kind).count (h, k) = l.countP (HeldEntry.isOf h k) := fun l => by
    rw [List.count, List.countP_map]
    rfl
  rw [State.pendingKinds, List.count_append, List.count_append, hsighting, hsighting, hheld, ← Nat.add_assoc]
  rfl

theorem mem_inFlightSighting {s : State} {g : Sighting} :
    g ∈ inFlightSighting s ↔ ∃ r, s.planner = some r ∧ r.sighting = g := by
  simp [inFlightSighting]

theorem classesInRange_iff (s : State) : ClassesInRange s ↔ ∀ p ∈ s.pendingKinds, p.2 < 16 := by
  simp only [ClassesInRange, State.pendingKinds, List.forall_mem_append, List.forall_mem_map, mem_inFlightSighting]
  refine and_congr_right fun _ => and_congr_left fun _ => ⟨?_, fun hg r hr => hg _ ⟨r, hr, rfl⟩⟩
  rintro hr _ ⟨r, hp, rfl⟩
  exact hr r hp

theorem talliesBalance_iff (s : State) : TalliesBalance s ↔ s.tally.Balances s.pendingKinds := by
  simp only [TalliesBalance, TallyTable.Balances, SightingTally.Balances, classesInRange_iff, count_pendingKinds]

end Sys2Proof.Machine
end

section
/-! What leaves the sighting records and the pending sightings alone (O56): everything that has to do with entries,
nozzles, buses, banks, notices and the operating state. -/

namespace Sys2Proof.Machine

/-- The sighting records, and the pending sightings by chute and class. -/
def State.ledger (s : State) : Tab SightingTally × List (Chute × Nat) := (s.tally.sightings, s.pendingKinds)

section
variable {s t : State}

/-- Sighting records and pending sightings are all that a balance is about. -/
theorem balances_of_ledger (h : t.ledger = s.ledger) (l : List (Chute × Nat))
    (hb : s.tally.Balances (l ++ s.pendingKinds)) : t.tally.Balances (l ++ t.pendingKinds) := by
  obtain ⟨hsightings, hpending⟩ := Prod.mk.inj h
  unfold TallyTable.Balances TallyTable.sighting at hb ⊢
  rwa [hsightings, hpending]

theorem TalliesBalance.of_ledger (hb : TalliesBalance s) (h : t.ledger = s.ledger) : TalliesBalance t :=
  (talliesBalance_iff t).2 (balances_of_ledger h [] ((talliesBalance_iff s).1 hb))

theorem BalancesWith.of_ledger {p : Chute × Nat} (hb : BalancesWith p s) (h : t.ledger = s.ledger) : BalancesWith p t :=
  balances_of_ledger h [p] hb

/-- What leaves the ledger alone keeps the balance. -/
theorem keeps_balance_of_ledger {f : State → State} (hf : ∀ s, (f s).ledger = s.ledger) : Keeps TalliesBalance f :=
  fun s hb => hb.of_ledger (hf s)

/-- A frame that gives the ledger back leaves it alone. -/
theorem ledger_of_frame {u : State} (h : t = u) (hu : u.ledger = s.ledger) : t.ledger = s.ledger := by
  rw [h, hu]

/-- Whichever state a choice takes. -/
theorem ledger_ite {c : Prop} [Decidable c] {u : State} (ht : t.ledger = s.ledger) (hu : u.ledger = s.ledger) :
    (if c then t else u).ledger = s.ledger := by
  split
  · exact ht
  · exact hu

end

variable (s : State)

/-! ### The state controller -/

theorem ledger_withCtl (c : Controller) : ({ s with ctl := c } : State).ledger = s.ledger := rfl

@[simp] theorem ledger_enterState (op : OpState) : (enterState op s).ledger = s.ledger :=
  ledger_of_frame (enterState_eq s op) rfl

@[simp] theorem ledger_concludeDry : (concludeDry s).ledger = s.ledger := ledger_of_frame (concludeDry_eq s) rfl

@[simp] theorem ledger_concludePurge : (concludePurge s).ledger = s.ledger :=
  ledger_of_frame (concludePurge_frame s) rfl

/-! ### Entries and offers -/

theorem ledger_offer (g : Nat) (c e : Time) (prio : Nat) (o : Origin) : (offer g c e prio o s).1.ledger = s.ledger :=
  ledger_of_frame (offer_frame s g c e prio o) rfl

theorem ledger_placePlan (prio : Nat) (plan : List PlanFiring) : (placePlan prio plan s).1.ledger = s.ledger :=
  ledger_of_frame (placePlan_frame s prio plan) rfl

@[simp] theorem ledger_purgeOffer (width n : Nat) (h : Chute) : (purgeOffer width n h s).ledger = s.ledger :=
  ledger_of_frame (purgeOffer_frame s width n h) rfl

theorem ledger_admitEntry (g : Nat) (x : Entry) : (admitEntry g x s).ledger = s.ledger := by
  unfold admitEntry
  dsimp only
  split <;> rfl

theorem ledger_judgeStart (g : Nat) (x : Entry) : (judgeStart g x s).ledger = s.ledger := by
  have hcut : ∀ v : Nat × Entry,
      (admitEntry g x (closeEarly v.1 v.2 (countChute (chuteOf g) .cut s))).ledger = s.ledger := fun v =>
    (ledger_admitEntry _ g x).trans (ledger_of_frame (closeEarly_frame _ v.1 v.2) rfl)
  have harbitrate : (arbitrate g x s).ledger = s.ledger := by
    unfold arbitrate
    split
    · exact ledger_ite (hcut _) rfl
    · rfl
  exact ledger_ite (ledger_admitEntry s g x) (ledger_ite harbitrate rfl)

theorem ledger_endEntry (g : Nat) (e : Entry) : (endEntry g e s).ledger = s.ledger :=
  ledger_of_frame (endEntry_frame s g e) rfl

/-! ### Grants and results -/

theorem ledger_grantLoop (h : Chute) (fuel : Nat) : (grantLoop h fuel s).ledger = s.ledger := by
  induction fuel generalizing s with
  | zero => rfl
  | succ fuel ih =>
    unfold grantLoop
    split
    · rfl
    · dsimp only
      refine ledger_ite ?_ rfl
      split
      · exact ih _
      · exact ledger_ite (ih _) (ledger_ite (ih _) rfl)

@[simp] theorem ledger_grantNext (h : Chute) : (grantNext h s).ledger = s.ledger :=
  ledger_ite rfl (ledger_ite rfl (ledger_grantLoop s h _))

@[simp] theorem ledger_grantAll : (grantAll s).ledger = s.ledger := by simp [grantAll]

@[simp] theorem ledger_freeBus (h : Chute) : (freeBus h s).ledger = s.ledger := ledger_grantNext _ h

theorem ledger_makeFailed (g : Nat) (cause : FailureCause) : (makeFailed g cause s).ledger = s.ledger :=
  ledger_ite rfl (ledger_ite rfl rfl)

theorem ledger_nozzleEffect (t : Transaction) (result : LastResult) (m : Nat) :
    (nozzleEffect t result m s).ledger = s.ledger := by
  unfold nozzleEffect
  split
  · rfl
  · exact ledger_ite (ledger_makeFailed _ _ _) rfl
  · exact ledger_makeFailed _ _ _
  · rfl
  · exact ledger_makeFailed _ _ _
  · exact ledger_makeFailed _ _ _
  · rfl

theorem ledger_dispatchEffect (t : Transaction) (result : LastResult) :
    (dispatchEffect t result s).ledger = s.ledger := by
  unfold dispatchEffect
  split
  · unfold dispatchOpen
    split
    · rfl
    · exact ledger_ite (ledger_of_frame (openCompleted_frame _ _ _) rfl) rfl
  · unfold dispatchClose
    split
    · exact ledger_ite rfl rfl
    · rfl
  · rfl

theorem ledger_commandSent (h : Chute) : (commandSent h s).ledger = s.ledger := by
  unfold commandSent
  dsimp only
  split
  · exact ledger_ite rfl rfl
  · rfl

/-! ### Inputs, the line clock and the transmitter -/

/-- The end of the cold reset counts and admits nothing (R148). -/
theorem ledger_coldResetEnd (straps : BitVec 5) (estop airlow : Bool) :
    (coldResetEnd straps estop airlow s).ledger = s.ledger := by
  have hestop : ∀ u, (if estop then coldEstop u else u).ledger = u.ledger := fun u =>
    ledger_ite (ledger_enterState { u with ctl := { u.ctl with estop := true } } .halt) rfl
  have hairlow : ∀ u, (if airlow then coldAirlow u else u).ledger = u.ledger := fun _ => ledger_ite rfl rfl
  exact ((hairlow _).trans (hestop _)).trans (ledger_grantAll _)

theorem ledger_lsyncPulse : (lsyncPulse s).ledger = s.ledger := by
  have hsettle : ∀ n u, (judgeSettle n u).ledger = u.ledger := fun n u => by
    unfold judgeSettle
    split
    · rfl
    · exact ledger_ite (ledger_ite rfl rfl) rfl
  exact ledger_ite rfl ((hsettle _ _).trans (ledger_ite rfl rfl))

theorem ledger_recordGap : (recordGap s).ledger = s.ledger := by
  unfold recordGap
  split <;> rfl

theorem ledger_airlowAssertion : (airlowAssertion s).ledger = s.ledger := ledger_ite rfl rfl

theorem ledger_replyTurnaroundEnd : (replyTurnaroundEnd s).ledger = s.ledger := by
  unfold replyTurnaroundEnd
  split
  · exact ledger_ite rfl rfl
  · rfl

theorem ledger_replySent : (replySent s).ledger = s.ledger := by
  unfold replySent
  split <;> rfl

end Sys2Proof.Machine
end

section
/-! The balance where sightings are admitted, planned, held and given up (O56): R13, R16, R18, R19, R40, R54 to R58, R80
to R86, R91. -/

namespace Sys2Proof.Machine

variable {s : State} {h : Chute} {k : Nat} {c : SightingCounter}

/-! ### A sighting taken up -/

/-- The outcome of the sighting taken up is counted (R58). -/
theorem BalancesWith.outcome (hb : BalancesWith (h, k) s) (hc : c.IsOutcome) : TalliesBalance (countSighting h k c s) :=
  (talliesBalance_iff _).2 (TallyTable.Balances.outcome hb hc)

theorem BalancesWith.mark (hb : BalancesWith (h, k) s) (hc : c = .defaulted ∨ c = .clipped) :
    BalancesWith (h, k) (countSighting h k c s) :=
  TallyTable.Balances.mark hb (hb.1 _ List.mem_cons_self) hc

theorem TalliesBalance.mark (hb : TalliesBalance s) (hk : k < 16) (hc : c = .defaulted ∨ c = .clipped) :
    TalliesBalance (countSighting h k c s) :=
  (talliesBalance_iff _).2 (((talliesBalance_iff s).1 hb).mark hk hc)

/-- Every result of a placement is one of the outcomes (R56). -/
theorem placementOutcome_isOutcome (results : List PlaceResult) : (placementOutcome results).IsOutcome := by
  rw [placementOutcome_eq]
  split_ifs <;> exact ⟨nofun, nofun, nofun⟩

theorem BalancesWith.placeAndCount (hb : BalancesWith (h, k) s) (prio : Nat) (plan : List PlanFiring) :
    TalliesBalance (placeAndCount h k prio plan s) :=
  (hb.of_ledger (ledger_placePlan s prio plan)).outcome (placementOutcome_isOutcome _)

/-! ### The sighting port -/

/-- A sighting that is admitted is seen and pending (R13). -/
theorem admitSighting_keeps_balance {g : Sighting} (hg : g.cls < 16) : Keeps TalliesBalance (admitSighting g) := by
  intro s hb
  have hseen := ((talliesBalance_iff s).1 hb).seen (h := g.chute) hg
  have hperm : ((s.port.intake ++ [g]).map Sighting.kind ++
      ((inFlightSighting s).map Sighting.kind ++ s.verdicts.held.map HeldEntry.kind)).Perm
        (g.kind :: s.pendingKinds) := by
    rw [List.map_append, List.append_assoc]
    exact List.perm_middle
  unfold admitSighting
  split
  · split
    · exact (talliesBalance_iff _).2 (hseen.perm hperm)
    · exact hb.of_ledger rfl
  · exact hb.of_ledger rfl

/-- The class of a record has four bits (12.2). -/
theorem cls_of_decodeRecord {bytes : List Byte} {g : Sighting} (hd : decodeRecord bytes = .sighting g) :
    g.cls < 16 := by
  unfold decodeRecord at hd
  split at hd
  · split_ifs at hd
    cases hd
    exact Nat.mod_lt _ (by decide)
  · exact absurd hd nofun

/-! ### The planner -/

/-- The planner takes a sighting of the intake, which stays pending (R18). -/
theorem plannerTake_keeps_balance : Keeps TalliesBalance plannerTake := by
  intro s hb
  unfold plannerTake
  split
  · rename_i g rest hp hi
    refine (talliesBalance_iff _).2 (((talliesBalance_iff s).1 hb).perm ?_)
    simp only [State.pendingKinds, inFlightSighting, hp, hi]
    exact List.perm_middle
  · exact hb

theorem sighting_lookUp (r : PlanRecord) (s : State) : (r.lookUp s).sighting = r.sighting := by
  unfold PlanRecord.lookUp
  split <;> rfl

section
variable {r : PlanRecord} (hb : TalliesBalance s) (hr : s.planner = some r)
include hb hr

/-- A step that goes on with its sighting leaves it in flight. -/
theorem setPlan_balances {r' : PlanRecord} (hg : r'.sighting = r.sighting) : TalliesBalance (setPlan r' s) := by
  refine hb.of_ledger ?_
  simp [State.ledger, State.pendingKinds, inFlightSighting, setPlan, hr, hg]

/-- The end of planning leaves its sighting to be settled (R40). -/
theorem endPlanning_balancesWith : BalancesWith r.sighting.kind (endPlanning s) := by
  refine ((talliesBalance_iff s).1 hb).perm ?_
  simp only [State.pendingKinds, inFlightSighting, hr]
  exact List.perm_middle.symm

theorem endWith_balances (hc : c.IsOutcome) : TalliesBalance (endWith r.sighting c s) :=
  (endPlanning_balancesWith hb hr).outcome hc

/-- A step that ends its sighting or goes on with it. -/
theorem endOrGoOn_balances {p : Prop} [Decidable p] {r' : PlanRecord} (hc : c.IsOutcome)
    (hg : r'.sighting = r.sighting) : TalliesBalance (if p then endWith r.sighting c s else setPlan r' s) := by
  split
  · exact endWith_balances hb hr hc
  · exact setPlan_balances hb hr hg

/-- The class of the sighting in flight is a class (R12). -/
theorem class_in_flight : r.sighting.cls < 16 := by
  obtain ⟨⟨-, hflight, -⟩, -⟩ := hb
  exact hflight r hr

/-- The nozzle set ends its sighting BLIND, or goes on with it, CLIPPED or not (R45, R46). -/
theorem formNozzleSet_balances {r' : PlanRecord} (hg : r'.sighting = r.sighting) :
    TalliesBalance (formNozzleSet r' s) := by
  unfold formNozzleSet
  rw [hg]
  dsimp only
  split
  · exact endWith_balances hb hr ⟨nofun, nofun, nofun⟩
  · split
    · exact setPlan_balances (hb.mark (class_in_flight hb hr) (.inr rfl)) hr rfl
    · exact setPlan_balances hb hr rfl

theorem nozzleSetStep_balances : TalliesBalance (nozzleSetStep r s) := by
  unfold nozzleSetStep
  dsimp only
  split
  · exact setPlan_balances hb hr (sighting_lookUp r s)
  · exact formNozzleSet_balances hb hr (sighting_lookUp r s)

end

/-! ### The held list -/

section
variable {e : HeldEntry}

/-- An entry that is held besides others is one more sighting pending. -/
theorem perm_of_held {kinds flight : List (Chute × Nat)} {held others : List HeldEntry} (hl : held.Perm (e :: others)) :
    (kinds ++ (flight ++ held.map HeldEntry.kind)).Perm
      (e.kind :: (kinds ++ (flight ++ others.map HeldEntry.kind))) := by
  rw [← List.append_assoc, ← List.append_assoc]
  exact ((hl.map HeldEntry.kind).append_left _).trans List.perm_middle

theorem BalancesWith.applyPolicy (hb : BalancesWith e.kind s) : TalliesBalance (applyPolicy e s) := by
  unfold Machine.applyPolicy
  split
  · exact hb.placeAndCount _ _
  · exact hb.outcome ⟨nofun, nofun, nofun⟩

theorem BalancesWith.resolveAtOnce (hb : BalancesWith e.kind s) : TalliesBalance (resolveAtOnce e s) :=
  (hb.mark (.inl rfl)).applyPolicy

theorem BalancesWith.expireSighting (hb : BalancesWith e.kind s) : TalliesBalance (expireSighting e s) :=
  ((hb.mark (.inl rfl)).of_ledger (t := pushTag e.chute e.tag _) rfl).applyPolicy

/-- A hand-off is settled, or held and so pending (R80 to R82, R86). -/
theorem BalancesWith.handOff (hb : BalancesWith e.kind s) : TalliesBalance (handOff e s) := by
  unfold Machine.handOff
  split
  · exact hb.expireSighting
  · split
    · exact (hb.of_ledger (t := countChute e.chute .duplicateTags s) rfl).resolveAtOnce
    · split
      · exact (hb.of_ledger (t := setNotice .heldFull (some e.chute) s) rfl).resolveAtOnce
      · have hperm := perm_of_held (kinds := s.port.intake.map Sighting.kind)
          (flight := (inFlightSighting s).map Sighting.kind) (insertHeld_perm e s.verdicts.held)
        exact (talliesBalance_iff _).2 (TallyTable.Balances.perm hb hperm)

/-- An entry taken out of the held list is to be settled (R84 to R86). -/
theorem removeHeld_balancesWith {tag : Byte} (hb : TalliesBalance s) (hf : findHeld h tag s = some e) :
    BalancesWith e.kind (removeHeld h tag s) := by
  obtain ⟨hnamed, before, after, hl, hbefore⟩ := List.find?_eq_some_iff_append.1 hf
  obtain ⟨hc, ht⟩ : e.chute = h ∧ e.tag = tag := by simpa [HeldEntry.named] using hnamed
  rw [removeHeld_of_first hl (by simpa [HeldEntry.named, imp_iff_not_or] using hbefore) hc ht]
  refine ((talliesBalance_iff s).1 hb).perm ?_
  rw [State.pendingKinds, State.pendingKinds, hl]
  exact (perm_of_held List.perm_middle).symm

end

end Sys2Proof.Machine
end

section
/-! Every step keeps the tallies balanced (O56): R16, R19, R91, R148, R161, R180 to R183. -/

namespace Sys2Proof.Machine

variable {s : State}

/-! ### Resets and conclusions -/

/-- With nothing counted and nothing pending the records balance (R181). -/
theorem TalliesBalance.of_zero (ht : s.tally = .zero) (hp : s.pendingKinds = []) : TalliesBalance s :=
  (talliesBalance_iff s).2 (by rw [ht, hp]; exact TallyTable.balances_zero)

theorem warmReset_balances (s : State) : TalliesBalance (warmReset s) := by
  rw [warmReset_eq]
  exact .of_zero rfl rfl

theorem endWindDown_keeps_balance : Keeps TalliesBalance endWindDown := by
  intro s hb
  obtain ⟨he, -⟩ | ⟨he, -⟩ := endWindDown_cases s
  · rwa [he]
  · rw [he]
    exact warmReset_balances s

theorem conclude_keeps_balance : Keeps TalliesBalance conclude := fun s hb =>
  endWindDown_keeps_balance _ (hb.of_ledger ((ledger_concludePurge _).trans (ledger_concludeDry s)))

theorem takeOwedReset_keeps_balance : Keeps TalliesBalance takeOwedReset := by
  intro s hb
  unfold takeOwedReset
  split
  · exact warmReset_balances s
  · exact hb

/-- Whatever leaves the ledger alone may be followed by its conclusions. -/
theorem concluded_balances {t : State} (hb : TalliesBalance s) (ht : t.ledger = s.ledger) :
    TalliesBalance (conclude t) :=
  conclude_keeps_balance t (hb.of_ledger ht)

/-! ### Giving up sightings -/

theorem abandonPlanning_keeps_balance : Keeps TalliesBalance abandonPlanning := by
  intro s hb
  unfold abandonPlanning
  split
  · exact hb
  · exact endWith_balances hb ‹_› ⟨nofun, nofun, nofun⟩

theorem emptyIntake_keeps_balance : Keeps TalliesBalance emptyIntake := fun s hb =>
  (talliesBalance_iff _).2 (TallyTable.Balances.abandon s.port.intake ((talliesBalance_iff s).1 hb))

theorem emptyHeld_keeps_balance : Keeps TalliesBalance emptyHeld := by
  intro s hb
  have hleft : (emptyHeld s).pendingKinds = s.port.intake.map Sighting.kind ++ (inFlightSighting s).map Sighting.kind :=
    congrArg (_ ++ ·) (List.append_nil _)
  have hperm : (s.verdicts.held.map HeldEntry.kind ++ (emptyHeld s).pendingKinds).Perm s.pendingKinds := by
    rw [hleft, State.pendingKinds, ← List.append_assoc (s.port.intake.map _)]
    exact List.perm_append_comm
  exact (talliesBalance_iff _).2 (.abandon s.verdicts.held (((talliesBalance_iff s).1 hb).perm hperm))

/-- Every pending sighting is given up and counted ABANDONED (R16, R19, R91). -/
theorem giveUpPending_keeps_balance : Keeps TalliesBalance fun s => emptyHeld (emptyIntake (abandonPlanning s)) :=
  fun s hb => emptyHeld_keeps_balance _ (emptyIntake_keeps_balance _ (abandonPlanning_keeps_balance s hb))

theorem emergencyStop_keeps_balance : Keeps TalliesBalance emergencyStop := by
  intro s hb
  have hstopped : TalliesBalance (grantAll (emptyQueues (requestCloseAll s))) := hb.of_ledger (ledger_grantAll _)
  exact (giveUpPending_keeps_balance _ hstopped).of_ledger
    ((ledger_enterState _ .halt).trans (ledger_concludeDry _))

theorem estopAssertion_keeps_balance : Keeps TalliesBalance estopAssertion := by
  intro s hb
  unfold estopAssertion
  split
  · exact hb
  · exact emergencyStop_keeps_balance _ ((takeOwedReset_keeps_balance s hb).of_ledger (ledger_withCtl _ _))

theorem windDownLimitExpiry_keeps_balance : Keeps TalliesBalance windDownLimitExpiry := by
  intro s hb
  unfold windDownLimitExpiry
  split
  · split
    · exact concluded_balances (giveUpPending_keeps_balance s hb) (ledger_grantAll _)
    · exact hb
  · exact hb

theorem standbyFromRun_keeps_balance : Keeps TalliesBalance standbyFromRun := fun s hb =>
  (giveUpPending_keeps_balance s hb).of_ledger (ledger_enterState _ .standby)

/-! ### Records and deadlines -/

theorem takeVerdict_keeps_balance (h : Chute) (tag : Byte) (confirm : Bool) :
    Keeps TalliesBalance (takeVerdict h tag confirm) := by
  intro s hb
  unfold takeVerdict
  split
  · split
    · have hheld := removeHeld_balancesWith hb ‹_›
      refine endWindDown_keeps_balance _ ?_
      split
      · exact hheld.placeAndCount _ _
      · exact hheld.outcome ⟨nofun, nofun, nofun⟩
    · exact hb.of_ledger (ledger_ite rfl rfl)
  · exact hb.of_ledger rfl

theorem deadlineExpiry_keeps_balance (h : Chute) (tag : Byte) : Keeps TalliesBalance (deadlineExpiry h tag) := by
  intro s hb
  unfold deadlineExpiry
  split
  · split
    · exact endWindDown_keeps_balance _ (removeHeld_balancesWith hb ‹_›).expireSighting
    · exact hb
  · exact hb

theorem completeRecord_keeps_balance (bytes : List Byte) : Keeps TalliesBalance (completeRecord bytes) := by
  intro s hb
  have hrx : TalliesBalance (setRecordRx (.collecting []) s) := hb
  unfold completeRecord
  split
  · exact hb.of_ledger rfl
  · exact hb.of_ledger rfl
  · exact admitSighting_keeps_balance (cls_of_decodeRecord ‹_›) _ hrx
  · exact takeVerdict_keeps_balance _ _ _ _ hrx

theorem recordByte_keeps_balance (b : Byte) : Keeps TalliesBalance fun s => recordByte s b := by
  intro s hb
  dsimp only [recordByte]
  split
  · exact hb
  · split
    · exact hb.of_ledger rfl
    · exact completeRecord_keeps_balance _ s hb

/-! ### Dispatchers, valve buses and purges -/

theorem entryStart_keeps_balance (g : Nat) : Keeps TalliesBalance (entryStart g) := by
  intro s hb
  unfold entryStart
  split
  · exact concluded_balances hb ((ledger_grantNext _ _).trans (ledger_judgeStart s g _))
  · exact hb

theorem entryEnd_keeps_balance (g : Nat) : Keeps TalliesBalance (entryEnd g) := by
  intro s hb
  unfold entryEnd
  split
  · exact concluded_balances hb ((ledger_grantNext _ _).trans (ledger_endEntry s g _))
  · exact hb

theorem completeTransaction_keeps_balance (h : Chute) (t : Transaction) (result : LastResult) (m : Nat) :
    Keeps TalliesBalance (completeTransaction h t result m) := fun s hb =>
  concluded_balances hb <| (ledger_freeBus _ h).trans <| (ledger_dispatchEffect _ t result).trans <|
    (ledger_nozzleEffect _ t result m).trans (ledger_ite (s := s) rfl rfl)

theorem closeAllSendEnds_keeps_balance (h : Chute) (t : Transaction) : Keeps TalliesBalance (closeAllSendEnds h t) := by
  intro s hb
  unfold closeAllSendEnds
  split
  · exact hb.of_ledger rfl
  · exact concluded_balances hb ((ledger_freeBus _ h).trans (ledger_ite rfl rfl))

theorem replyWaitExpiry_keeps_balance (h : Chute) : Keeps TalliesBalance (replyWaitExpiry h) := by
  intro s hb
  have hretry : ∀ t : Transaction,
      TalliesBalance (if t.retry then completeTransaction h t .noReply 0 s else retry h t s) := fun t => by
    split
    · exact completeTransaction_keeps_balance h t _ _ s hb
    · exact hb.of_ledger rfl
  unfold replyWaitExpiry
  split
  · exact hb
  · split
    · exact hb
    · split
      · split
        · exact closeAllSendEnds_keeps_balance h _ s hb
        · exact hretry _
        · exact hretry _
      · exact hb

theorem valveReply_keeps_balance (h : Chute) (lane : Lane) (bytes : List Byte) :
    Keeps TalliesBalance (valveReply h lane bytes) := by
  intro s hb
  unfold valveReply
  split
  · split
    · split
      · exact closeAllSendEnds_keeps_balance h _ s hb
      · exact completeTransaction_keeps_balance h _ _ _ s hb
      · exact completeTransaction_keeps_balance h _ _ _ s hb
    · exact hb
  · exact hb

theorem makeTurn_keeps_balance (p : Purge) : Keeps TalliesBalance (makeTurn p) := fun s hb =>
  concluded_balances hb <| (ledger_withCtl _ _).trans <| by simp only [ledger_purgeOffer]

theorem purgeTurn_keeps_balance : Keeps TalliesBalance purgeTurn := by
  intro s hb
  unfold purgeTurn
  split
  · split
    · exact makeTurn_keeps_balance _ s hb
    · exact hb
  · exact hb

/-- Every event of the part and of its inputs keeps the balance. -/
theorem events_keep_balance : EventsKeep TalliesBalance where
  heldInReset _ _ := .of_zero rfl rfl
  coldResetEnd straps estop airlow := keeps_balance_of_ledger fun s => ledger_coldResetEnd s straps estop airlow
  lsyncPulse := keeps_balance_of_ledger ledger_lsyncPulse
  lsyncLow _ hb := hb
  recordByte := recordByte_keeps_balance
  recordGap := keeps_balance_of_ledger ledger_recordGap
  collecting _ hb := hb
  plannerTake := plannerTake_keeps_balance
  endWindDown := endWindDown_keeps_balance
  ageStep _ _ hr hb := endOrGoOn_balances hb hr ⟨nofun, nofun, nofun⟩ rfl
  bankStep _ _ hr hb := setPlan_balances hb hr rfl
  bandStep _ _ hr hb := endOrGoOn_balances hb hr ⟨nofun, nofun, nofun⟩ rfl
  nozzleSetStep _ _ hr hb := nozzleSetStep_balances hb hr
  sizeBandStep _ _ hr hb := setPlan_balances hb hr rfl
  widthStep _ _ hr hb := endOrGoOn_balances hb hr ⟨nofun, nofun, nofun⟩ rfl
  flightStep _ _ hr hb := setPlan_balances hb hr rfl
  seenTimeStep _ _ hr hb := setPlan_balances hb hr rfl
  perNozzleTimesStep _ _ hr hb := setPlan_balances hb hr rfl
  leadStep _ _ hr hb := endOrGoOn_balances hb hr ⟨nofun, nofun, nofun⟩ rfl
  confidenceStep r s hr hb := by
    have hend := endPlanning_balancesWith hb hr
    unfold confidenceStep
    dsimp only
    split
    · exact setPlan_balances hb hr rfl
    · exact BalancesWith.handOff (e := heldOf _ _) hend
  placement r s hr hb := (endPlanning_balancesWith hb hr).placeAndCount _ _
  deadlineExpiry := deadlineExpiry_keeps_balance
  entryStart := entryStart_keeps_balance
  entryEnd := entryEnd_keeps_balance
  grant h s hb := concluded_balances hb (ledger_grantNext s h)
  commandSent h := keeps_balance_of_ledger fun s => ledger_commandSent s h
  replyWaitExpiry := replyWaitExpiry_keeps_balance
  valveReply := valveReply_keeps_balance
  estopAssertion := estopAssertion_keeps_balance
  estopRelease _ hb := hb
  airlowAssertion := keeps_balance_of_ledger ledger_airlowAssertion
  airlowRelease _ hb := hb
  purgeTurn := purgeTurn_keeps_balance
  concludePurge := keeps_balance_of_ledger ledger_concludePurge
  windDownLimitExpiry := windDownLimitExpiry_keeps_balance
  warmReset s _ := warmReset_balances s
  concludeDry := keeps_balance_of_ledger ledger_concludeDry
  replyTurnaroundEnd := keeps_balance_of_ledger ledger_replyTurnaroundEnd
  replySent := keeps_balance_of_ledger ledger_replySent

end Sys2Proof.Machine
end

section
/-! The balance at the commands, and at every step (O56): R76, R150 to R153, R158, R162, R182, R183. -/

namespace Sys2Proof.Machine

/-! ### Commands of the state controller -/

theorem goRun_keeps_balance (p : List Byte) : KeepsCmd TalliesBalance (cmdGoRun p) := by
  intro s hb
  have ht := takeOwedReset_keeps_balance s hb
  unfold cmdGoRun
  split
  · exact keeps_ite ht <| keeps_ite ht <| keeps_ite ht <| keeps_ite ht <| keeps_ite ht <|
      ht.of_ledger (ledger_enterState (closeWindow _) .run)
  · exact hb

theorem goStandby_keeps_balance (p : List Byte) : KeepsCmd TalliesBalance (cmdGoStandby p) := by
  intro s hb
  have ht := takeOwedReset_keeps_balance s hb
  unfold cmdGoStandby
  split
  · dsimp only
    split
    · exact ht
    · exact standbyFromRun_keeps_balance (closeWindow _) ht
    · exact ht.of_ledger (ledger_of_frame (standbyFromPurge_eq _) rfl)
    · exact keeps_ite ht (ht.of_ledger (ledger_enterState (closeWindow _) .standby))
    · exact ht
  · exact hb

theorem purge_keeps_balance (p : List Byte) : KeepsCmd TalliesBalance (cmdPurge p) := by
  intro s hb
  have ht := takeOwedReset_keeps_balance s hb
  have hstart : ∀ rounds width spacing, TalliesBalance (startPurge rounds width spacing (takeOwedReset s)) := by
    intro rounds width spacing
    rw [startPurge_eq]
    exact makeTurn_keeps_balance _ _ (ht.of_ledger rfl)
  unfold cmdPurge
  split
  · refine keeps_ite ht (keeps_ite ht ?_)
    dsimp only
    exact hstart _ _ _
  · exact hb

theorem restart_keeps_balance (p : List Byte) : KeepsCmd TalliesBalance (cmdRestart p) := by
  intro s hb
  have ht := takeOwedReset_keeps_balance s hb
  unfold cmdRestart
  split
  · exact keeps_ite ht (endWindDown_keeps_balance _ (ht.of_ledger (ledger_enterState _ .windDown)))
  · exact hb

theorem dryOn_keeps_balance (p : List Byte) : KeepsCmd TalliesBalance (cmdDryOn p) := by
  intro s hb
  have ht := takeOwedReset_keeps_balance s hb
  unfold cmdDryOn
  split
  · exact keeps_ite (ht.of_ledger (ledger_of_frame (dryOn_eq _) rfl)) ht
  · exact hb

theorem dryOff_keeps_balance (p : List Byte) : KeepsCmd TalliesBalance (cmdDryOff p) := by
  intro s hb
  have ht := takeOwedReset_keeps_balance s hb
  unfold cmdDryOff
  split
  · exact keeps_ite ht ht
  · exact hb

/-! ### NOZZLE WRITE and TALLY -/

theorem nozzleWrite_keeps_balance (p : List Byte) : KeepsCmd TalliesBalance (cmdNozzleWrite p) := by
  intro s hb
  have hwrite : ∀ g f, TalliesBalance (writeNozzle g f s) := fun g f => by
    unfold writeNozzle
    dsimp only
    split
    · exact concluded_balances hb rfl
    · exact hb.of_ledger rfl
  unfold cmdNozzleWrite
  split
  · split
    · exact hb
    · exact keeps_ite hb <| keeps_ite hb <| keeps_ite hb <| keeps_ite hb <| hwrite _ _
  · exact hb

/-- The selector of a sighting record is a class (R182). -/
theorem class_of_tallyName {c sel : Byte} {h : Chute} {k : Nat} (hn : tallyName c sel = some (.sighting h k)) :
    k < 16 := by
  unfold tallyName at hn
  split_ifs at hn with hclass
  · obtain ⟨_, -, he⟩ := Option.map_eq_some_iff.1 hn
    cases he
    exact Nat.lt_succ_of_le hclass
  · obtain ⟨_, -, he⟩ := Option.map_eq_some_iff.1 hn
    cases he
  · cases hn

/-- A record that is cleared starts again from its pending sightings (R182). -/
theorem clearTally_balances {s : State} (hb : TalliesBalance s) {c sel : Byte} {n : TallyName}
    (hn : tallyName c sel = some n) : TalliesBalance (clearTally n s) := by
  cases n with
  | sighting h k =>
    have hclear := ((talliesBalance_iff s).1 hb).clear (h := h) (class_of_tallyName hn)
    rw [count_pendingKinds] at hclear
    exact (talliesBalance_iff _).2 hclear
  | chute h => exact hb.of_ledger rfl
  | link => exact hb.of_ledger rfl

theorem tally_keeps_balance (p : List Byte) : KeepsCmd TalliesBalance (cmdTally p) := by
  intro s hb
  unfold cmdTally
  split
  · refine keeps_ite hb ?_
    split
    · exact hb
    · show TalliesBalance (closeWindow (ite _ _ _))
      split
      · exact clearTally_balances hb ‹_›
      · exact hb
  · exact hb

/-! ### Settings -/

/-- A SET keeps the balance where storing its value leaves the ledger alone. -/
theorem setNumeric_keeps_balance {id chute : Byte} {allowed : State → Bool} {lo hi : Nat} {store : Nat → State → State}
    (hstore : ∀ v s, (store v s).ledger = s.ledger) (v : Nat) :
    KeepsCmd TalliesBalance (setNumeric id chute allowed lo hi store v) := fun s hb =>
  keeps_ite (hb.of_ledger (hstore _ s)) hb

/-- The SET of a setting without a chute, whose range may depend on the other settings. -/
theorem setSetting_keeps_balance {id : Byte} {allowed : State → Bool} {lo hi : State → Nat}
    {store : Nat → State → State} (hstore : ∀ v s, (store v s).ledger = s.ledger) (p : List Byte) :
    KeepsCmd TalliesBalance fun s => withValue (fun _ => setNumeric id 0 allowed (lo s) (hi s) store) p s := fun s hb =>
  withValue_keeps (fun _ v => setNumeric_keeps_balance hstore v) p s hb

theorem setValveGap_keeps_balance (p : List Byte) : KeepsCmd TalliesBalance (cmdSetValveGap p) := by
  refine withValue_keeps (fun c v s hb => ?_) p
  split
  · exact hb
  · exact setNumeric_keeps_balance (fun _ _ => by rfl) v s hb

/-! ### Every step -/

theorem linkBlind_balance : LinkBlind TalliesBalance where
  setFrameRx _ _ hb := hb
  controlError _ _ hb := hb.of_ledger rfl
  giveReply _ _ _ hb := hb

/-- Every command keeps the balance. -/
theorem commands_keep_balance : CommandsKeep TalliesBalance where
  poll p s hb := by
    unfold cmdPoll
    split
    · exact keeps_ite hb hb
    · exact hb
  notices p s hb := by
    unfold cmdNotices
    split <;> exact hb
  rearm p s hb := by
    unfold cmdRearm
    split <;> exact hb
  goRun := goRun_keeps_balance
  goStandby := goStandby_keeps_balance
  purge := purge_keeps_balance
  restart := restart_keeps_balance
  clearCold p s hb := by
    unfold cmdClearCold
    split
    · exact takeOwedReset_keeps_balance s hb
    · exact hb
  dryOn := dryOn_keeps_balance
  dryOff := dryOff_keeps_balance
  window p s hb := by
    unfold cmdWindow
    split
    · split
      · exact hb
      · exact keeps_ite hb <| keeps_ite hb <| keeps_ite hb <| hb.of_ledger (ledger_of_frame (openWindow_eq _ s) rfl)
    · exact hb
  put p s hb := by
    unfold cmdPut
    refine keeps_ite hb ?_
    split
    · exact hb
    · refine keeps_ite hb ?_
      split
      · exact hb
      · exact hb.of_ledger (ledger_of_frame (putEntry_eq _ _ s) rfl)
  get p s hb := by
    unfold cmdGet
    split
    · split
      · exact hb
      · exact keeps_ite hb hb
    · exact hb
  requestSwap _ _ hb := keeps_ite hb <| keeps_ite hb <| keeps_ite hb hb
  swapCancel p s hb := by
    unfold cmdSwapCancel
    split
    · exact keeps_ite hb hb
    · exact hb
  nozzleRead p s hb := by
    unfold cmdNozzleRead
    split
    · exact keeps_ite hb hb
    · exact hb
  nozzleWrite := nozzleWrite_keeps_balance
  test p s hb := by
    unfold cmdTest
    split
    · exact keeps_ite hb <| keeps_ite hb <| keeps_ite hb <| keeps_ite hb <|
        hb.of_ledger (ledger_offer (closeWindow s) _ _ _ 0 .test)
    · exact hb
  lane p s hb := by
    unfold cmdLane
    split
    · split <;> exact hb
    · exact hb
  query p s hb := by
    unfold cmdQuery
    split
    · split <;> exact hb
    · exact hb
  tally := tally_keeps_balance
  setAirTrim := setSetting_keeps_balance fun _ _ => rfl
  setLinePeriod := setSetting_keeps_balance fun _ _ => rfl
  setMaxAge := setSetting_keeps_balance fun _ _ => rfl
  setLeadMin := setSetting_keeps_balance fun _ _ => rfl
  setWidthMin := setSetting_keeps_balance fun _ _ => rfl
  setWidthMax := setSetting_keeps_balance fun _ _ => rfl
  setWidthCap := setSetting_keeps_balance fun _ _ => rfl
  setValveGap := setValveGap_keeps_balance
  setReplyWait := setSetting_keeps_balance fun _ _ => rfl
  setMissLimit := setSetting_keeps_balance fun _ _ => rfl
  setWindDownLimit := setSetting_keeps_balance fun _ _ => rfl
  setGroupAddress := withValue_keeps fun _ _ _ hb => keeps_ite hb hb
  setNoticeMask := withValue_keeps fun _ _ _ hb => hb

/-- Settles O56: a sighting is counted SEEN as it becomes pending and counted by one outcome as it ceases to be, a clear
and a reset start again from what is pending, and everything else leaves records and pending sightings alone. -/
theorem stepKeepsTalliesBalanced : Obligations.StepKeepsTalliesBalanced :=
  ⟨reset_talliesBalance, fun _ _ hs h => step_keeps (fun _ _ hb => hb) (fun _ hb => hb)
    (exec_keeps linkBlind_balance commands_keep_balance events_keep_balance) hs h⟩

end Sys2Proof.Machine
end

section
/-! The canonical form of the sparse tables (O53): the writes of the six tables, and the operations on entries, nozzle
records and valve buses, which come down to them. An operation that writes no table keeps the form by computation. -/

namespace Sys2Proof.Machine

/-! ### The writes of the tables -/

/-- Setting a notice writes its record (R174). -/
theorem NoticeTable.wf_set {n : NoticeTable} (h : Tab.wf .clear n.records = true) (mask : BitVec 11) (k : NoticeKind)
    (c : Option Chute) : Tab.wf .clear (n.set mask k c).records = true := by
  dsimp only [NoticeTable.set, NoticeTable.judge]
  exact Tab.wf_set h k.place _

section
variable {s : State} (h : TablesCanonical s)
include h

theorem TablesCanonical.withCtl (c : Controller) : TablesCanonical { s with ctl := c } := h

theorem TablesCanonical.handRequest (r : Request) : TablesCanonical (handRequest r s) := h

theorem TablesCanonical.setQueue (g : Nat) (q : List Entry) : TablesCanonical (s.setQueue g q) := by
  obtain ⟨hx, hy, hqueues, hrest⟩ := h
  exact ⟨hx, hy, Tab.wf_set hqueues g q, hrest⟩

theorem TablesCanonical.mapQueues (f : Nat → List Entry → List Entry) :
    TablesCanonical { s with firing := { s.firing with queues := Tab.mapListed [] f s.firing.queues } } := by
  obtain ⟨hx, hy, hqueues, hrest⟩ := h
  exact ⟨hx, hy, Tab.wf_mapListed hqueues f, hrest⟩

theorem TablesCanonical.noQueues : TablesCanonical { s with firing := { s.firing with queues := [] } } := by
  obtain ⟨hx, hy, -, hrest⟩ := h
  exact ⟨hx, hy, rfl, hrest⟩

theorem TablesCanonical.setNozzle (g : Nat) (r : NozzleRecord) : TablesCanonical (s.setNozzle g r) := by
  obtain ⟨hx, hy, hqueues, hnozzles, hrest⟩ := h
  exact ⟨hx, hy, hqueues, Tab.wf_set hnozzles g r, hrest⟩

theorem TablesCanonical.setNotice (k : NoticeKind) (c : Option Chute) : TablesCanonical (setNotice k c s) := by
  obtain ⟨hx, hy, hqueues, hnozzles, hnotices, hsightings⟩ := h
  exact ⟨hx, hy, hqueues, hnozzles, NoticeTable.wf_set hnotices _ k c, hsightings⟩

theorem TablesCanonical.clearNotices : TablesCanonical (clearNotices s) := by
  obtain ⟨hx, hy, hqueues, hnozzles, -, hsightings⟩ := h
  exact ⟨hx, hy, hqueues, hnozzles, rfl, hsightings⟩

theorem TablesCanonical.setSighting (c : Chute) (k : Nat) (r : SightingTally) :
    TablesCanonical { s with tally := s.tally.setSighting c k r } := by
  obtain ⟨hx, hy, hqueues, hnozzles, hnotices, hsightings⟩ := h
  exact ⟨hx, hy, hqueues, hnozzles, hnotices, Tab.wf_set hsightings (tallyIndex c k) r⟩

theorem TablesCanonical.countSighting (c : Chute) (k : Nat) (counter : SightingCounter) :
    TablesCanonical (countSighting c k counter s) :=
  h.setSighting c k _

theorem TablesCanonical.data (bank : Bank) : (s.banks.data bank).canonical = true := by
  obtain ⟨hx, hy, -⟩ := h
  cases bank with
  | x => exact hx
  | y => exact hy

theorem TablesCanonical.setData (bank : Bank) {d : BankData} (hd : d.canonical = true) :
    TablesCanonical { s with banks := s.banks.setData bank d } := by
  obtain ⟨hx, hy, hrest⟩ := h
  cases bank with
  | x => exact ⟨hd, hy, hrest⟩
  | y => exact ⟨hx, hd, hrest⟩

/-- The loaded flags are no part of the tables. -/
theorem TablesCanonical.setLoaded (bank : Bank) (t : TableId) (v : Bool) : TablesCanonical (setLoaded bank t v s) :=
  h.setData bank (h.data bank)

end

/-- Counting every member of a list ABANDONED writes the sighting records one by one. -/
theorem TablesCanonical.countAbandoned {α : Type} (chute : α → Chute) (cls : α → Nat) (l : List α) {s : State}
    (h : TablesCanonical s) : TablesCanonical { s with
      tally := l.foldl (fun t x => t.countSighting (chute x) (cls x) .abandoned) s.tally } := by
  induction l generalizing s with
  | nil => exact h
  | cons x l ih => exact ih (h.countSighting (chute x) (cls x) .abandoned)

theorem BankData.canonical_iff (d : BankData) : d.canonical = true ↔
    Tab.wf .zero d.columnMap = true ∧ Tab.wf .zero d.chute = true ∧ Tab.wf .zero d.cls = true ∧
      Tab.wf 0 d.pulse = true := by
  simp only [BankData.canonical, Bool.and_eq_true, and_assoc]

/-- An entry is written into one of the four tables of its bank (R28). -/
theorem BankData.canonical_write {d : BankData} (h : d.canonical = true) (i : Nat) (e : TableEntry) :
    (d.write i e).canonical = true := by
  rw [BankData.canonical_iff] at h ⊢
  obtain ⟨hcolumns, hchutes, hclasses, hpulses⟩ := h
  cases e with
  | columnMap e => exact ⟨Tab.wf_set hcolumns i e, hchutes, hclasses, hpulses⟩
  | chute e => exact ⟨hcolumns, Tab.wf_set hchutes i e, hclasses, hpulses⟩
  | cls e => exact ⟨hcolumns, hchutes, Tab.wf_set hclasses i e, hpulses⟩
  | pulse w => exact ⟨hcolumns, hchutes, hclasses, Tab.wf_set hpulses i w⟩

/-- Whichever state a choice takes. -/
theorem canonical_ite {c : Prop} [Decidable c] {s t : State} (hs : TablesCanonical s) (ht : TablesCanonical t) :
    TablesCanonical (if c then s else t) := by
  split
  · exact hs
  · exact ht

/-! ### Entries of a queue -/

theorem removeEntry_keeps_canonical (g ident : Nat) : Keeps TablesCanonical (removeEntry g ident) :=
  fun _ h => h.setQueue g _

theorem updateEntry_keeps_canonical (g ident : Nat) (f : Entry → Entry) :
    Keeps TablesCanonical (updateEntry g ident f) :=
  fun _ h => h.setQueue g _

theorem abandonWaiting_keeps_canonical (g : Nat) : Keeps TablesCanonical (abandonWaiting g) :=
  fun _ h => h.setQueue g _

theorem abandonOrigin_keeps_canonical (o : Origin) : Keeps TablesCanonical (abandonOrigin o) :=
  fun _ h => h.mapQueues _

theorem reduceQueues_keeps_canonical : Keeps TablesCanonical reduceQueues := fun _ h => h.mapQueues _

theorem emptyQueues_keeps_canonical : Keeps TablesCanonical emptyQueues := fun _ h => h.noQueues

theorem closeEarly_keeps_canonical (g : Nat) (e : Entry) : Keeps TablesCanonical (closeEarly g e) := by
  intro s h
  unfold closeEarly
  dsimp only
  split
  · exact removeEntry_keeps_canonical g e.ident (s.setOpenCount _ _) h
  · refine TablesCanonical.handRequest (updateEntry_keeps_canonical g e.ident _ _ ?_) _
    split <;> exact h

theorem admitEntry_keeps_canonical (g : Nat) (x : Entry) : Keeps TablesCanonical (admitEntry g x) := by
  intro s h
  unfold admitEntry
  dsimp only
  split <;> exact updateEntry_keeps_canonical g x.ident _ (s.setOpenCount _ _) h

/-- A start is admitted, after a cut or without one, or starved (R97 to R99). -/
theorem judgeStart_keeps_canonical (g : Nat) (x : Entry) : Keeps TablesCanonical (judgeStart g x) := by
  intro s h
  have hstarve : TablesCanonical (starveEntry g x s) := removeEntry_keeps_canonical g x.ident s h
  have harbitrate : TablesCanonical (arbitrate g x s) := by
    unfold arbitrate
    split
    · exact canonical_ite (admitEntry_keeps_canonical g x _ (closeEarly_keeps_canonical _ _ (countChute _ _ s) h))
        hstarve
    · exact hstarve
  exact canonical_ite (admitEntry_keeps_canonical g x s h) (canonical_ite harbitrate hstarve)

theorem endEntry_keeps_canonical (g : Nat) (e : Entry) : Keeps TablesCanonical (endEntry g e) := by
  intro s h
  unfold endEntry
  dsimp only
  split
  · exact updateEntry_keeps_canonical g e.ident _ (s.setOpenCount _ _) h
  · exact removeEntry_keeps_canonical g e.ident (s.setOpenCount _ _) h

/-! ### Offers and placements -/

/-- An offer writes the queue it is made to, if any (R65 to R68). -/
theorem offer_keeps_canonical (g : Nat) (c e : Time) (prio : Nat) (o : Origin) :
    Keeps TablesCanonical fun s => (offer g c e prio o s).1 := by
  intro s h
  dsimp only [offer]
  split
  · exact h
  · split
    · split
      · exact h.setQueue g _
      · exact h
    · split
      · exact h
      · exact h.setQueue g _

theorem placeOne_keeps_canonical (prio : Nat) (f : PlanFiring) :
    Keeps TablesCanonical fun s => (placeOne prio s f).1 := by
  intro s h
  have hoffer := offer_keeps_canonical f.nozzle f.command f.stop prio .sighting s h
  dsimp only [placeOne] at hoffer ⊢
  split
  · exact h
  · split
    · exact h
    · split
      all_goals
        rename_i hanswer
        rw [hanswer] at hoffer
        exact hoffer

theorem placePlan_keeps_canonical (prio : Nat) (plan : List PlanFiring) :
    Keeps TablesCanonical fun s => (placePlan prio plan s).1 := by
  induction plan with
  | nil => exact fun _ h => h
  | cons f fs ih => exact fun s h => ih _ (placeOne_keeps_canonical prio f s h)

theorem placeAndCount_keeps_canonical (c : Chute) (k prio : Nat) (plan : List PlanFiring) :
    Keeps TablesCanonical (placeAndCount c k prio plan) :=
  fun s h => (placePlan_keeps_canonical prio plan s h).countSighting c k _

theorem purgeOffer_keeps_canonical (width n : Nat) (c : Chute) : Keeps TablesCanonical (purgeOffer width n c) := by
  intro s h
  have hoffer := offer_keeps_canonical (globalId c n) (plus s.clk.now s.settings.leadMin)
    (plus (plus s.clk.now s.settings.leadMin) width) 0 .purge s h
  dsimp only [purgeOffer] at hoffer ⊢
  split
  · split
    all_goals
      rename_i hanswer
      rw [hanswer] at hoffer
      exact hoffer
  · exact h

/-! ### Grants and results -/

theorem grantLoop_keeps_canonical (c : Chute) (fuel : Nat) : Keeps TablesCanonical (grantLoop c fuel) := by
  induction fuel with
  | zero => exact fun _ h => h
  | succ fuel ih =>
    intro s h
    unfold grantLoop
    split
    · exact h
    · rename_i r _
      have ht : TablesCanonical (takeRequest c r s) := h
      have hlate : ∀ e, TablesCanonical (starveLate r.nozzle e (takeRequest c r s)) := fun e =>
        removeEntry_keeps_canonical r.nozzle e.ident ((takeRequest c r s).setOpenCount _ _) ht
      have hstart : ∀ f, TablesCanonical
          (startTransaction c r (updateEntry r.nozzle r.ident f (takeRequest c r s))) := fun f =>
        updateEntry_keeps_canonical r.nozzle r.ident f _ ht
      dsimp only
      refine canonical_ite ?_ (hstart _)
      split
      · exact ih _ ht
      · exact canonical_ite (ih _ ht) (canonical_ite (ih _ (hlate _)) (hstart _))

theorem grantNext_keeps_canonical (c : Chute) : Keeps TablesCanonical (grantNext c) := fun s h =>
  canonical_ite h (canonical_ite h (grantLoop_keeps_canonical c _ s h))

theorem grantAll_keeps_canonical : Keeps TablesCanonical grantAll := fun s h =>
  grantNext_keeps_canonical 3 _ (grantNext_keeps_canonical 2 _ (grantNext_keeps_canonical 1 _
    (grantNext_keeps_canonical 0 s h)))

theorem freeBus_keeps_canonical (c : Chute) : Keeps TablesCanonical (freeBus c) := fun s h =>
  grantNext_keeps_canonical c (s.setBus c { s.busOf c with inFlight := none }) h

theorem makeFailed_keeps_canonical (g : Nat) (cause : FailureCause) : Keeps TablesCanonical (makeFailed g cause) := by
  intro s h
  have hfailed := (h.setNozzle g { s.nozzle g with state := .failed, cause := cause }).setNotice .nozzleFailed
    (some (chuteOf g))
  exact canonical_ite h (canonical_ite (abandonWaiting_keeps_canonical g _ hfailed) hfailed)

/-- A result writes the nozzle record, and may make the nozzle FAILED (7.6). -/
theorem nozzleEffect_keeps_canonical (t : Transaction) (result : LastResult) (m : Nat) :
    Keeps TablesCanonical (nozzleEffect t result m) := by
  intro s h
  unfold nozzleEffect
  split
  · exact h.setNozzle _ _
  · exact canonical_ite (makeFailed_keeps_canonical _ _ _ (h.setNozzle _ _)) (h.setNozzle _ _)
  · exact makeFailed_keeps_canonical _ _ _ (h.setNozzle _ _)
  · exact h.setNozzle _ _
  · exact (makeFailed_keeps_canonical _ _ _ (h.setNozzle _ _)).setNotice _ _
  · exact (makeFailed_keeps_canonical _ _ _ (h.setNozzle _ _)).setNotice _ _
  · exact h

theorem openCompleted_keeps_canonical (g : Nat) (e : Entry) : Keeps TablesCanonical (openCompleted g e) := fun s h =>
  canonical_ite (updateEntry_keeps_canonical g e.ident _ (s.setOpenCount _ _) h)
    (updateEntry_keeps_canonical g e.ident _ s h)

theorem dispatchEffect_keeps_canonical (t : Transaction) (result : LastResult) :
    Keeps TablesCanonical (dispatchEffect t result) := by
  intro s h
  unfold dispatchEffect
  split
  · unfold dispatchOpen
    split
    · exact h
    · have hcount : ∀ c, TablesCanonical (countChute (chuteOf t.nozzle) c s) := fun _ => h
      exact canonical_ite (openCompleted_keeps_canonical _ _ _ (hcount _))
        (updateEntry_keeps_canonical _ _ _ _ (hcount _))
  · unfold dispatchClose
    split
    · exact canonical_ite (removeEntry_keeps_canonical _ _ s h) h
    · exact h
  · exact h

end Sys2Proof.Machine
end

section
/-! Every step keeps the tables canonical (O53). -/

namespace Sys2Proof.Machine

/-! ### Conclusions and resets -/

theorem enterState_keeps_canonical (op : OpState) : Keeps TablesCanonical (enterState op) := fun _ h =>
  canonical_ite h h

theorem concludeDry_keeps_canonical : Keeps TablesCanonical concludeDry := fun _ h => canonical_ite h h

/-- A purge that completes sets its notice (R155). -/
theorem concludePurge_keeps_canonical : Keeps TablesCanonical concludePurge := by
  intro s h
  unfold concludePurge
  split
  · exact h
  · exact canonical_ite ((enterState_keeps_canonical .standby _ (h.withCtl _)).setNotice _ _) h

theorem warmNotices_canonical (s : State) : Tab.wf .clear (warmNotices s).records = true := by
  have hrestarted := NoticeTable.wf_set (n := .cleared) rfl s.settings.noticeMask .restarted none
  unfold warmNotices
  dsimp only
  split
  · exact NoticeTable.wf_set hrestarted _ _ _
  · exact hrestarted

/-- A warm reset keeps the tables of the banks and the nozzle records, and clears the other tables (R132, R161). -/
theorem warmReset_keeps_canonical : Keeps TablesCanonical warmReset := by
  intro s ⟨hx, hy, _, hnozzles, _⟩
  rw [warmReset_eq]
  exact ⟨hx, hy, rfl, hnozzles, warmNotices_canonical s, rfl⟩

theorem endWindDown_keeps_canonical : Keeps TablesCanonical endWindDown := fun s h =>
  canonical_ite (warmReset_keeps_canonical s h) h

theorem conclude_keeps_canonical : Keeps TablesCanonical conclude := fun s h =>
  endWindDown_keeps_canonical _ (concludePurge_keeps_canonical _ (concludeDry_keeps_canonical s h))

theorem takeOwedReset_keeps_canonical : Keeps TablesCanonical takeOwedReset := fun s h =>
  canonical_ite (warmReset_keeps_canonical s h) h

theorem coldResetEnd_keeps_canonical (straps : BitVec 5) (estop airlow : Bool) :
    Keeps TablesCanonical (coldResetEnd straps estop airlow) := by
  intro s h
  have hestop : Keeps TablesCanonical coldEstop := fun u hu =>
    (enterState_keeps_canonical .halt _ (hu.withCtl _)).setNotice _ _
  have hairlow : Keeps TablesCanonical coldAirlow := fun u hu =>
    (hu.withCtl _).setNotice _ _
  have hstart := grantAll_keeps_canonical (requestCloseAll { s with
    ctl := { s.ctl with rstn := false }
    clk := LineClock.restarted coldPeriod
    link := { s.link with address := strapAddress straps } }) h
  have hjudged := canonical_ite (c := estop = true) (hestop _ hstart) hstart
  exact canonical_ite (hairlow _ hjudged) hjudged

/-! ### Giving up work -/

/-- The end of planning writes none of a bank's tables (R33, R40). -/
theorem endWith_keeps_canonical (g : Sighting) (c : SightingCounter) : Keeps TablesCanonical (endWith g c) := fun s h =>
  TablesCanonical.countSighting (s := endPlanning s) h g.chute g.cls c

theorem abandonPlanning_keeps_canonical : Keeps TablesCanonical abandonPlanning := by
  intro s h
  unfold abandonPlanning
  split
  · exact h
  · exact endWith_keeps_canonical _ _ s h

theorem emptyIntake_keeps_canonical : Keeps TablesCanonical emptyIntake := fun s h =>
  h.countAbandoned Sighting.chute Sighting.cls s.port.intake

theorem emptyHeld_keeps_canonical : Keeps TablesCanonical emptyHeld := fun s h =>
  h.countAbandoned HeldEntry.chute HeldEntry.cls s.verdicts.held

/-- Every pending sighting is given up and counted ABANDONED (R16, R19, R91). -/
theorem giveUpPending_keeps_canonical : Keeps TablesCanonical fun s => emptyHeld (emptyIntake (abandonPlanning s)) :=
  fun s h => emptyHeld_keeps_canonical _ (emptyIntake_keeps_canonical _ (abandonPlanning_keeps_canonical s h))

theorem emergencyStop_keeps_canonical : Keeps TablesCanonical emergencyStop := by
  intro s h
  have hempty : TablesCanonical (emptyQueues (requestCloseAll s)) := emptyQueues_keeps_canonical (requestCloseAll s) h
  have hgiven : TablesCanonical (emptyRings (emptyHeld (emptyIntake (abandonPlanning
      (grantAll (emptyQueues (requestCloseAll s))))))) :=
    giveUpPending_keeps_canonical _ (grantAll_keeps_canonical _ hempty)
  exact (enterState_keeps_canonical .halt _ (concludeDry_keeps_canonical _ (hgiven.withCtl _))).setNotice _ _

theorem estopAssertion_keeps_canonical : Keeps TablesCanonical estopAssertion := fun s h =>
  canonical_ite h (emergencyStop_keeps_canonical _ ((takeOwedReset_keeps_canonical s h).withCtl _))

theorem windDownLimitExpiry_keeps_canonical : Keeps TablesCanonical windDownLimitExpiry := by
  intro s h
  have hreduced := reduceQueues_keeps_canonical _ (giveUpPending_keeps_canonical s h)
  have hexpiry : ∀ w, TablesCanonical (windDownExpiry w s) := fun w =>
    conclude_keeps_canonical _ (grantAll_keeps_canonical _ (hreduced.withCtl _))
  unfold windDownLimitExpiry
  split
  · exact canonical_ite (hexpiry _) h
  · exact h

/-! ### The sighting port -/

theorem linkError_keeps_canonical : Keeps TablesCanonical linkError := fun s h =>
  TablesCanonical.setNotice (s := countLinkError s) h _ _

/-- A sighting is counted SEEN, or dropped with a notice, or refused (R13, R14). -/
theorem admitSighting_keeps_canonical (g : Sighting) : Keeps TablesCanonical (admitSighting g) := by
  intro s h
  have hseen := TablesCanonical.countSighting (s := { s with port := s.port.withIntake (s.port.intake ++ [g]) }) h
    g.chute g.cls .seen
  have hoverflow := TablesCanonical.setNotice (s := countChute g.chute .overflow s) h .intakeOverflow (some g.chute)
  exact canonical_ite (canonical_ite hseen hoverflow) h

theorem takeVerdict_keeps_canonical (c : Chute) (tag : Byte) (confirm : Bool) :
    Keeps TablesCanonical (takeVerdict c tag confirm) := by
  intro s h
  have hremoved : TablesCanonical (removeHeld c tag s) := h
  have hsettled : ∀ e : HeldEntry, TablesCanonical (if confirm
      then placeAndCount e.chute e.cls e.prio e.plan (removeHeld c tag s)
      else countSighting e.chute e.cls .dismissed (removeHeld c tag s)) := fun e =>
    canonical_ite (placeAndCount_keeps_canonical _ _ _ _ _ hremoved) (hremoved.countSighting _ _ _)
  unfold takeVerdict
  refine canonical_ite ?_ h
  split
  · exact endWindDown_keeps_canonical _ (hsettled _)
  · exact canonical_ite h h

theorem completeRecord_keeps_canonical (bytes : List Byte) : Keeps TablesCanonical (completeRecord bytes) := by
  intro s h
  have hrx : ∀ r, TablesCanonical (setRecordRx r s) := fun _ => h
  unfold completeRecord
  split
  · exact linkError_keeps_canonical _ (hrx _)
  · exact linkError_keeps_canonical _ (hrx _)
  · exact admitSighting_keeps_canonical _ _ (hrx _)
  · exact takeVerdict_keeps_canonical _ _ _ _ (hrx _)

theorem recordByte_keeps_canonical (b : Byte) : Keeps TablesCanonical fun s => recordByte s b := by
  intro s h
  dsimp only [recordByte]
  split
  · exact h
  · exact canonical_ite h (completeRecord_keeps_canonical _ s h)

theorem recordGap_keeps_canonical : Keeps TablesCanonical recordGap := by
  intro s h
  unfold recordGap
  split
  · exact linkError_keeps_canonical (setRecordRx (.collecting []) s) h
  · exact h
  · exact h

/-! ### The planner and the held list -/

theorem plannerTake_keeps_canonical : Keeps TablesCanonical plannerTake := by
  intro s h
  unfold plannerTake
  split <;> exact h

/-- A step of planning ends its sighting or goes on with it. -/
theorem endOrGoOn_keeps_canonical {p : Prop} [Decidable p] (g : Sighting) (c : SightingCounter) (r : PlanRecord) :
    Keeps TablesCanonical fun s => if p then endWith g c s else setPlan r s := fun s h =>
  canonical_ite (endWith_keeps_canonical g c s h) h

theorem nozzleSetStep_keeps_canonical (r : PlanRecord) : Keeps TablesCanonical (nozzleSetStep r) := by
  intro s h
  have hformed : ∀ r, TablesCanonical (formNozzleSet r s) := fun r =>
    canonical_ite (endWith_keeps_canonical _ _ s h) (canonical_ite (h.countSighting _ _ _) h)
  exact canonical_ite h (hformed _)

theorem applyPolicy_keeps_canonical (e : HeldEntry) : Keeps TablesCanonical (applyPolicy e) := by
  intro s h
  unfold applyPolicy
  split
  · exact placeAndCount_keeps_canonical _ _ _ _ s h
  · exact h.countSighting _ _ _

theorem resolveAtOnce_keeps_canonical (e : HeldEntry) : Keeps TablesCanonical (resolveAtOnce e) := fun _ h =>
  applyPolicy_keeps_canonical e _ (h.countSighting _ _ _)

theorem expireSighting_keeps_canonical (e : HeldEntry) : Keeps TablesCanonical (expireSighting e) := fun s h =>
  applyPolicy_keeps_canonical e (pushTag e.chute e.tag (countSighting e.chute e.cls .defaulted s))
    (h.countSighting e.chute e.cls .defaulted)

/-- A hand-off is settled at once or held, a full list setting its notice (R80 to R82). -/
theorem handOff_keeps_canonical (e : HeldEntry) : Keeps TablesCanonical (handOff e) := fun s h =>
  canonical_ite (expireSighting_keeps_canonical e s h) <|
    canonical_ite (resolveAtOnce_keeps_canonical e (countChute e.chute .duplicateTags s) h) <|
      canonical_ite (resolveAtOnce_keeps_canonical e _ (h.setNotice .heldFull (some e.chute))) h

theorem deadlineExpiry_keeps_canonical (c : Chute) (tag : Byte) : Keeps TablesCanonical (deadlineExpiry c tag) := by
  intro s h
  unfold deadlineExpiry
  split
  · exact canonical_ite
      (endWindDown_keeps_canonical _ (expireSighting_keeps_canonical _ (removeHeld c tag s) h)) h
  · exact h

/-! ### Dispatchers and valve buses -/

theorem concludeGrant_keeps_canonical (c : Chute) : Keeps TablesCanonical fun s => conclude (grantNext c s) :=
  fun s h => conclude_keeps_canonical _ (grantNext_keeps_canonical c s h)

theorem entryStart_keeps_canonical (g : Nat) : Keeps TablesCanonical (entryStart g) := by
  intro s h
  unfold entryStart
  split
  · exact concludeGrant_keeps_canonical _ _ (judgeStart_keeps_canonical g _ s h)
  · exact h

theorem entryEnd_keeps_canonical (g : Nat) : Keeps TablesCanonical (entryEnd g) := by
  intro s h
  unfold entryEnd
  split
  · exact concludeGrant_keeps_canonical _ _ (endEntry_keeps_canonical g _ s h)
  · exact h

theorem commandSent_keeps_canonical (c : Chute) : Keeps TablesCanonical (commandSent c) := by
  intro s h
  unfold commandSent
  dsimp only
  split
  · exact canonical_ite h h
  · exact h

theorem completeTransaction_keeps_canonical (c : Chute) (t : Transaction) (result : LastResult) (m : Nat) :
    Keeps TablesCanonical (completeTransaction c t result m) := by
  intro s h
  have hflipped : TablesCanonical (if t.retry && result != .noReply then flipLane c t.lane s else s) :=
    canonical_ite (TablesCanonical.setNotice (s := countChute c .laneFlips (s.setBus c _)) h _ _) h
  exact conclude_keeps_canonical _ <| freeBus_keeps_canonical c _ <| dispatchEffect_keeps_canonical t result _ <|
    nozzleEffect_keeps_canonical t result m _ hflipped

theorem closeAllSendEnds_keeps_canonical (c : Chute) (t : Transaction) :
    Keeps TablesCanonical (closeAllSendEnds c t) := by
  intro s h
  unfold closeAllSendEnds
  split
  · exact h
  · exact conclude_keeps_canonical _ (freeBus_keeps_canonical c _ (canonical_ite h (h.setNotice _ _)))

theorem replyWaitExpiry_keeps_canonical (c : Chute) : Keeps TablesCanonical (replyWaitExpiry c) := by
  intro s h
  have hretry : ∀ t : Transaction,
      TablesCanonical (if t.retry then completeTransaction c t .noReply 0 s else retry c t s) := fun t =>
    canonical_ite (completeTransaction_keeps_canonical c t _ _ s h) h
  unfold replyWaitExpiry
  split
  · exact h
  · split
    · exact h
    · refine canonical_ite ?_ h
      split
      · exact closeAllSendEnds_keeps_canonical c _ s h
      · exact hretry _
      · exact hretry _

theorem valveReply_keeps_canonical (c : Chute) (lane : Lane) (bytes : List Byte) :
    Keeps TablesCanonical (valveReply c lane bytes) := by
  intro s h
  unfold valveReply
  split
  · refine canonical_ite ?_ h
    split
    · exact closeAllSendEnds_keeps_canonical c _ s h
    · exact completeTransaction_keeps_canonical c _ _ _ s h
    · exact completeTransaction_keeps_canonical c _ _ _ s h
  · exact h

/-! ### Line clock, inputs, purge and the transmitter -/

/-- The banks exchange their roles and keep their tables (R32). -/
theorem executeSwap_keeps_canonical (n : Line) : Keeps TablesCanonical (executeSwap n) := by
  intro s h
  unfold executeSwap
  refine TablesCanonical.setNotice ?_ _ _
  exact h

theorem lsyncPulse_keeps_canonical : Keeps TablesCanonical lsyncPulse := by
  intro s h
  have hsettle : ∀ n u, TablesCanonical u → TablesCanonical (judgeSettle n u) := fun n u hu => by
    unfold judgeSettle
    split
    · exact hu
    · exact canonical_ite (canonical_ite hu hu) hu
  have hpulse : TablesCanonical { s with clk := s.clk.pulse } := h
  exact canonical_ite hpulse (hsettle _ _ (canonical_ite (executeSwap_keeps_canonical _ _ hpulse) hpulse))

theorem airlowAssertion_keeps_canonical : Keeps TablesCanonical airlowAssertion := fun _ h =>
  canonical_ite h ((h.withCtl _).setNotice _ _)

theorem makeTurn_keeps_canonical (p : Purge) : Keeps TablesCanonical (makeTurn p) := by
  intro s h
  have hoffers := purgeOffer_keeps_canonical p.width (p.nextTurn % Config.nozzlesPerChute) 3 _ <|
    purgeOffer_keeps_canonical p.width (p.nextTurn % Config.nozzlesPerChute) 2 _ <|
    purgeOffer_keeps_canonical p.width (p.nextTurn % Config.nozzlesPerChute) 1 _ <|
    purgeOffer_keeps_canonical p.width (p.nextTurn % Config.nozzlesPerChute) 0 s h
  exact conclude_keeps_canonical _ (hoffers.withCtl _)

theorem purgeTurn_keeps_canonical : Keeps TablesCanonical purgeTurn := by
  intro s h
  unfold purgeTurn
  split
  · exact canonical_ite (makeTurn_keeps_canonical _ s h) h
  · exact h

theorem replyTurnaroundEnd_keeps_canonical : Keeps TablesCanonical replyTurnaroundEnd := by
  intro s h
  unfold replyTurnaroundEnd
  split
  · exact canonical_ite h h
  · exact h

theorem replySent_keeps_canonical : Keeps TablesCanonical replySent := by
  intro s h
  unfold replySent
  split <;> exact h

/-- Every event of the part and of its inputs keeps the tables canonical. -/
theorem events_keep_canonical : EventsKeep TablesCanonical where
  heldInReset _ _ := ⟨rfl, rfl, rfl, rfl, rfl, rfl⟩
  coldResetEnd := coldResetEnd_keeps_canonical
  lsyncPulse := lsyncPulse_keeps_canonical
  lsyncLow _ h := h
  recordByte := recordByte_keeps_canonical
  recordGap := recordGap_keeps_canonical
  collecting _ h := h
  plannerTake := plannerTake_keeps_canonical
  endWindDown := endWindDown_keeps_canonical
  ageStep _ s _ h := endOrGoOn_keeps_canonical _ _ _ s h
  bankStep _ _ _ h := h
  bandStep _ s _ h := endOrGoOn_keeps_canonical _ _ _ s h
  nozzleSetStep r s _ h := nozzleSetStep_keeps_canonical r s h
  sizeBandStep _ _ _ h := h
  widthStep _ s _ h := endOrGoOn_keeps_canonical _ _ _ s h
  flightStep _ _ _ h := h
  seenTimeStep _ _ _ h := h
  perNozzleTimesStep _ _ _ h := h
  leadStep _ s _ h := endOrGoOn_keeps_canonical _ _ _ s h
  confidenceStep _ s _ h := canonical_ite h (handOff_keeps_canonical _ (endPlanning s) h)
  placement _ s _ h := placeAndCount_keeps_canonical _ _ _ _ (endPlanning s) h
  deadlineExpiry := deadlineExpiry_keeps_canonical
  entryStart := entryStart_keeps_canonical
  entryEnd := entryEnd_keeps_canonical
  grant := concludeGrant_keeps_canonical
  commandSent := commandSent_keeps_canonical
  replyWaitExpiry := replyWaitExpiry_keeps_canonical
  valveReply := valveReply_keeps_canonical
  estopAssertion := estopAssertion_keeps_canonical
  estopRelease _ h := h
  airlowAssertion := airlowAssertion_keeps_canonical
  airlowRelease _ h := h
  purgeTurn := purgeTurn_keeps_canonical
  concludePurge := concludePurge_keeps_canonical
  windDownLimitExpiry := windDownLimitExpiry_keeps_canonical
  warmReset := warmReset_keeps_canonical
  concludeDry := concludeDry_keeps_canonical
  replyTurnaroundEnd := replyTurnaroundEnd_keeps_canonical
  replySent := replySent_keeps_canonical

end Sys2Proof.Machine
end

section
/-! The commands keep the tables canonical, and so does every step (O53); a step on a waiting command (O1). -/

namespace Sys2Proof.Machine

/-! ### Commands of the state controller -/

theorem goRun_keeps_canonical (p : List Byte) : KeepsCmd TablesCanonical (cmdGoRun p) := by
  intro s h
  have ht := takeOwedReset_keeps_canonical s h
  unfold cmdGoRun
  split
  · exact keeps_ite ht <| keeps_ite ht <| keeps_ite ht <| keeps_ite ht <| keeps_ite ht <|
      enterState_keeps_canonical .run (closeWindow (takeOwedReset s)) ht
  · exact h

/-- Leaving RUN or PURGE gives up the WAITING entries of its origin (R76). -/
theorem leaveWork_keeps_canonical (o : Origin) :
    Keeps TablesCanonical fun s => enterState .standby (abandonOrigin o s) := fun s h =>
  enterState_keeps_canonical .standby _ (abandonOrigin_keeps_canonical o s h)

theorem goStandby_keeps_canonical (p : List Byte) : KeepsCmd TablesCanonical (cmdGoStandby p) := by
  intro s h
  have ht : TablesCanonical (closeWindow (takeOwedReset s)) := takeOwedReset_keeps_canonical s h
  unfold cmdGoStandby
  split
  · dsimp only
    split
    · exact ht
    · exact leaveWork_keeps_canonical .sighting (emptyRings _) (giveUpPending_keeps_canonical _ ht)
    · exact leaveWork_keeps_canonical .purge _ (ht.withCtl _)
    · exact keeps_ite ht (enterState_keeps_canonical .standby _ ht)
    · exact ht
  · exact h

theorem purge_keeps_canonical (p : List Byte) : KeepsCmd TablesCanonical (cmdPurge p) := by
  intro s h
  have ht := takeOwedReset_keeps_canonical s h
  have hstart : ∀ rounds width spacing, TablesCanonical (startPurge rounds width spacing (takeOwedReset s)) :=
    fun _ _ _ => makeTurn_keeps_canonical _ _
      (enterState_keeps_canonical .purge (closeWindow { takeOwedReset s with ctl := _ }) ht)
  unfold cmdPurge
  split
  · refine keeps_ite ht (keeps_ite ht ?_)
    dsimp only
    exact hstart _ _ _
  · exact h

theorem restart_keeps_canonical (p : List Byte) : KeepsCmd TablesCanonical (cmdRestart p) := by
  intro s h
  have ht := takeOwedReset_keeps_canonical s h
  have hstart : TablesCanonical (startWindDown (takeOwedReset s)) :=
    enterState_keeps_canonical .windDown (closeWindow { takeOwedReset s with ctl := _ }) ht
  unfold cmdRestart
  split
  · exact keeps_ite ht (endWindDown_keeps_canonical _ hstart)
  · exact h

theorem dryOn_keeps_canonical (p : List Byte) : KeepsCmd TablesCanonical (cmdDryOn p) := by
  intro s h
  have ht : TablesCanonical (closeWindow (takeOwedReset s)) := takeOwedReset_keeps_canonical s h
  have hon : TablesCanonical (dryOn (closeWindow (takeOwedReset s))) :=
    canonical_ite ht (concludeDry_keeps_canonical _ (ht.withCtl _))
  unfold cmdDryOn
  split
  · exact keeps_ite hon ht
  · exact h

theorem dryOff_keeps_canonical (p : List Byte) : KeepsCmd TablesCanonical (cmdDryOff p) := by
  intro s h
  have ht := takeOwedReset_keeps_canonical s h
  unfold cmdDryOff
  split
  · exact keeps_ite ht ht
  · exact h

/-! ### Tables, nozzles and tallies -/

/-- A window for PUT of a whole table clears its loaded flag (R26, R27). -/
theorem openWindow_keeps_canonical (w : Window) : Keeps TablesCanonical (openWindow w) := fun s h =>
  canonical_ite (TablesCanonical.setLoaded (s := { s with link := { s.link with window := some w } }) h _ _ _) h

theorem window_keeps_canonical (p : List Byte) : KeepsCmd TablesCanonical (cmdWindow p) := by
  intro s h
  unfold cmdWindow
  split
  · split
    · exact h
    · exact keeps_ite h <| keeps_ite h <| keeps_ite h <| openWindow_keeps_canonical _ s h
  · exact h

/-- An entry is written at the window's position, the last one setting the loaded flag (R26, R28). -/
theorem putEntry_keeps_canonical (w : Window) (e : TableEntry) : Keeps TablesCanonical (putEntry w e) := by
  intro s h
  have hwritten := h.setData w.bank (BankData.canonical_write (h.data w.bank) w.pos e)
  exact canonical_ite (TablesCanonical.setLoaded (s := { s with banks := _, link := _ }) hwritten _ _ _) hwritten

theorem put_keeps_canonical (p : List Byte) : KeepsCmd TablesCanonical (cmdPut p) := by
  intro s h
  unfold cmdPut
  refine keeps_ite h ?_
  split
  · exact h
  · refine keeps_ite h ?_
    split
    · exact h
    · exact putEntry_keeps_canonical _ _ s h

theorem writeNozzle_keeps_canonical (g : Nat) (f : NozzleFields) : Keeps TablesCanonical (writeNozzle g f) := by
  intro s h
  have hwritten : TablesCanonical (closeWindow (s.setNozzle g (f.apply (s.nozzle g)))) := h.setNozzle g _
  exact canonical_ite (conclude_keeps_canonical _ (abandonWaiting_keeps_canonical g _ hwritten)) hwritten

theorem nozzleWrite_keeps_canonical (p : List Byte) : KeepsCmd TablesCanonical (cmdNozzleWrite p) := by
  intro s h
  unfold cmdNozzleWrite
  split
  · split
    · exact h
    · exact keeps_ite h <| keeps_ite h <| keeps_ite h <| keeps_ite h <| writeNozzle_keeps_canonical _ _ s h
  · exact h

theorem clearTally_keeps_canonical (n : TallyName) : Keeps TablesCanonical (clearTally n) := by
  intro s h
  cases n with
  | sighting c k => exact h.setSighting c k _
  | chute c => exact h
  | link => exact h

theorem tally_keeps_canonical (p : List Byte) : KeepsCmd TablesCanonical (cmdTally p) := by
  intro s h
  have hread : ∀ (clear : Byte) n, TablesCanonical (closeWindow (if clear = 1 then clearTally n s else s)) :=
    fun _ n => canonical_ite (clearTally_keeps_canonical n s h) h
  unfold cmdTally
  split
  · refine keeps_ite h ?_
    split
    · exact h
    · exact hread _ _
  · exact h

/-! ### Settings -/

theorem setNumeric_keeps_canonical {id chute : Byte} {allowed : State → Bool} {lo hi : Nat}
    {store : Nat → State → State} (hstore : ∀ v, Keeps TablesCanonical (store v)) (v : Nat) :
    KeepsCmd TablesCanonical (setNumeric id chute allowed lo hi store v) := fun s h =>
  keeps_ite (hstore _ s h) h

/-- The SET of a setting without a chute, whose range may depend on the other settings. -/
theorem setSetting_keeps_canonical {id : Byte} {allowed : State → Bool} {lo hi : State → Nat}
    {store : Nat → State → State} (hstore : ∀ v, Keeps TablesCanonical (store v)) (p : List Byte) :
    KeepsCmd TablesCanonical fun s => withValue (fun _ => setNumeric id 0 allowed (lo s) (hi s) store) p s :=
  fun s h => withValue_keeps (fun _ v => setNumeric_keeps_canonical hstore v) p s h

theorem updateSettings_keeps_canonical (f : Settings → Settings) : Keeps TablesCanonical (updateSettings f) :=
  fun _ h => h

theorem setValveGap_keeps_canonical (p : List Byte) : KeepsCmd TablesCanonical (cmdSetValveGap p) := by
  refine withValue_keeps (fun c v s h => ?_) p
  split
  · exact h
  · exact setNumeric_keeps_canonical (fun _ => updateSettings_keeps_canonical _) v s h

/-! ### Every step -/

theorem linkBlind_canonical : LinkBlind TablesCanonical where
  setFrameRx _ _ h := h
  controlError _ _ h := h
  giveReply _ _ _ h := h

/-- Every command keeps the tables canonical. -/
theorem commands_keep_canonical : CommandsKeep TablesCanonical where
  poll p s h := by
    unfold cmdPoll
    split
    · exact keeps_ite h h
    · exact h
  notices p s h := by
    unfold cmdNotices
    split
    · exact TablesCanonical.clearNotices (s := closeWindow s) h
    · exact h
  rearm p s h := by
    unfold cmdRearm
    split <;> exact h
  goRun := goRun_keeps_canonical
  goStandby := goStandby_keeps_canonical
  purge := purge_keeps_canonical
  restart := restart_keeps_canonical
  clearCold p s h := by
    unfold cmdClearCold
    split
    · exact takeOwedReset_keeps_canonical s h
    · exact h
  dryOn := dryOn_keeps_canonical
  dryOff := dryOff_keeps_canonical
  window := window_keeps_canonical
  put := put_keeps_canonical
  get p s h := by
    unfold cmdGet
    split
    · split
      · exact h
      · exact keeps_ite h h
    · exact h
  requestSwap _ _ h := keeps_ite h <| keeps_ite h <| keeps_ite h h
  swapCancel p s h := by
    unfold cmdSwapCancel
    split
    · exact keeps_ite h h
    · exact h
  nozzleRead p s h := by
    unfold cmdNozzleRead
    split
    · exact keeps_ite h h
    · exact h
  nozzleWrite := nozzleWrite_keeps_canonical
  test p s h := by
    unfold cmdTest
    split
    · exact keeps_ite h <| keeps_ite h <| keeps_ite h <| keeps_ite h <|
        offer_keeps_canonical _ _ _ 0 .test (closeWindow s) h
    · exact h
  lane p s h := by
    unfold cmdLane
    split
    · split <;> exact h
    · exact h
  query p s h := by
    unfold cmdQuery
    split
    · split <;> exact h
    · exact h
  tally := tally_keeps_canonical
  setAirTrim := setSetting_keeps_canonical fun _ _ h => h
  setLinePeriod := setSetting_keeps_canonical fun _ _ h => h
  setMaxAge := setSetting_keeps_canonical fun _ _ h => h
  setLeadMin := setSetting_keeps_canonical fun _ _ h => h
  setWidthMin := setSetting_keeps_canonical fun _ _ h => h
  setWidthMax := setSetting_keeps_canonical fun _ _ h => h
  setWidthCap := setSetting_keeps_canonical fun _ _ h => h
  setValveGap := setValveGap_keeps_canonical
  setReplyWait := setSetting_keeps_canonical fun _ _ h => h
  setMissLimit := setSetting_keeps_canonical fun _ _ h => h
  setWindDownLimit := setSetting_keeps_canonical fun _ _ h => h
  setGroupAddress := withValue_keeps fun _ _ _ h => keeps_ite h h
  setNoticeMask := withValue_keeps fun _ _ _ h => h

/-- Settles O53: a table is written entry by entry, mapped over what it lists, or emptied, and each of these keeps the
canonical form. -/
theorem stepKeepsTablesCanonical : Obligations.StepKeepsTablesCanonical := fun _ _ hs h =>
  step_keeps (fun _ _ h => h) (fun _ h => h)
    (exec_keeps linkBlind_canonical commands_keep_canonical events_keep_canonical) hs h

/-- Settles O1: the queue of commands is judged before anything else. -/
theorem stepTakesTheFrontCommand : Obligations.StepTakesTheFrontCommand := by
  intro c rest s hpending
  unfold step
  rw [hpending]

end Sys2Proof.Machine
end
